-- ==== Sys2Proof/Word.lean ====
section
/-! DEFINITION. The block's data widths (00_scope.md R14, R15): bytes, half words and 32-bit words. -/

namespace Sys2Proof

/-- One byte of a datagram or of a byte buffer; also the width of `fid` and `fo` (R14). -/
abbrev Byte := BitVec 8

/-- A window value: `wnd`, `peerWindow`, `bytesInFlight` (R14). -/
abbrev Half := BitVec 16

/-- A host-bus word; also the width of `seq`, `ack`, `sf`, `now` and `lastSend` (R14, R15, R52). -/
abbrev Word := BitVec 32

end Sys2Proof
end

