-- ==== Sys2Proof/Syntax.lean ====
section
/-! DEFINITION. Syntax: the header value (R41), the command set (R88, spec/opcode_table.json), the inputs the block takes
at its ports (R231), and the lines of a host program (R91, R92). -/

namespace Sys2Proof

/-- A Header value (R41): exactly these fields; every combination of values is a representable header (R86).
`sid` is an opaque byte string with no byte order of its own (R56). -/
structure Header where
  sid : Vector Byte 16
  sf : Word
  seq : Word
  ack : Word
  wnd : Half
  fid : Byte
  fo : Byte
deriving DecidableEq, Repr

/-- `ZERO_HDR` (R41): every field zero. -/
def Header.zero : Header :=
  { sid := Vector.replicate 16 0#8, sf := 0, seq := 0, ack := 0, wnd := 0, fid := 0, fo := 0 }

/-- The eleven commands of the opcode map (R88), one constructor per row of spec/opcode_table.json. Only DATA_TX has
operand fields in its command word (R87). -/
inductive Instr where
  /-- PACK (R111) -/
  | pack
  /-- UNPACK (R115) -/
  | unpack
  /-- CONNECT_TX (R131) -/
  | connectTx
  /-- CONNECT_RX (R132) -/
  | connectRx
  /-- DISCONNECT_TX (R133) -/
  | disconnectTx
  /-- DISCONNECT_RX (R134) -/
  | disconnectRx
  /-- REVIVE_TX (R135) -/
  | reviveTx
  /-- REVIVE_RX (R136) -/
  | reviveRx
  /-- DATA_TX (R163) with the fields MF, FID and FO of the command word (R87) -/
  | dataTx (mf : BitVec 1) (fid fo : Byte)
  /-- ACK_RX (R166) -/
  | ackRx
  /-- SWEEP (R169) -/
  | sweep
deriving DecidableEq, Repr

/-- Why a word written to CMD is no command (R89). Every reason has the same effect; the name says which field is wrong. -/
inductive DecodeError where
  /-- the OPC field is not in the opcode map -/
  | unknownOpcode
  /-- OPC is DATA_TX's and a reserved bit of [15:9] is set -/
  | reservedBits
  /-- OPC is another command's and one of the bits [31:8] is set -/
  | operandBits
deriving DecidableEq, Repr

/-- The width of one host-bus access. Only word accesses are operations of the block (R52). -/
inductive AccessSize where
  | byte
  | half
  | word
deriving DecidableEq, Repr

/-- One event at the block's input ports (R231): an access of the one host-bus master at a byte offset of the 8 KiB window
(R50), a pulse of `tick` (R175), or an assertion of the reset input (R250). -/
inductive HostInput where
  /-- a bus write of `value` at window offset `off` -/
  | write (off : BitVec 13) (size : AccessSize) (value : Word)
  /-- a bus read at window offset `off` -/
  | read (off : BitVec 13) (size : AccessSize)
  /-- one pulse of the `tick` input -/
  | tick
  /-- the reset input asserted -/
  | reset
deriving DecidableEq, Repr

/-- The register names of the map (R51). -/
inductive RegName where
  | CMD | RESULT | STATUS | NEXT_SEQ | LAST_PEER_SEQ | PEER_WINDOW | BYTES_IN_FLIGHT | INFLIGHT_COUNT | NOW | PENDING_SEQ
  | TX_LEN | RX_LEN | HDR_IN | HDR_OUT | HDR_OUT_PLEN | TEMPLATE | SAVED | PKT_OUT | TX_PAYLOAD | RX_BUF
deriving DecidableEq, Repr

/-- Where a `wr` or `rd` line points (R91): `NAME` is `named NAME 0`, `NAME+k` is `named NAME k`, or a hex offset. -/
inductive Target where
  | named (reg : RegName) (k : Nat)
  | offset (off : Nat)
deriving DecidableEq, Repr

/-- One line of a host program (R91) or pseudo-instruction (R92). A comment has no line here. -/
inductive HostLine where
  /-- `wr NAME, VALUE` -/
  | wr (target : Target) (value : Nat)
  /-- `rd NAME` -/
  | rd (target : Target)
  /-- a command mnemonic, `data_tx fid=F, fo=O, mf=M` among them -/
  | command (i : Instr)
  /-- `tick N` -/
  | tick (n : Nat)
  /-- `txload B` -/
  | txload (bytes : List Byte)
  /-- `txlen L` -/
  | txlen (len : Nat)
  /-- `rxload B` -/
  | rxload (bytes : List Byte)
  /-- `rxnone` -/
  | rxnone
  /-- `hdrload sid=S, sf=X, …`; an omitted field is zero -/
  | hdrload (h : Header)
deriving DecidableEq, Repr

end Sys2Proof
end

