-- ==== Sys2Proof/Config.lean ====
section
/-! DEFINITION. The source's fixed constants (R8, R16), the OPEN parameters of one block instance (R9 to R13, R17, R61),
the free draws of reset (R252) and the free value for an empty fragment (log entry 14). Every one is an opaque constant: nothing can
be proved of it but its range. -/

namespace Sys2Proof

/-- `HDR_BYTES` (R8). -/
def hdrBytes : Nat := 32
/-- `MAX_PAYLOAD` and `FRAG_CAP` (R8, R16). -/
def maxPayload : Nat := 1440
/-- `MAX_DGRAM` (R8). -/
def maxDgram : Nat := 1472
/-- `DISC_ATTEMPTS` (R8). -/
def discAttemptLimit : Nat := 3
/-- `MAX_FRAGS` (R16). -/
def maxFrags : Nat := 256

/-- What the block's semantics reads of its instance: the OPEN parameters (R9 to R12) and one free value. -/
structure Params where
  /-- `RTO_TICKS` (R9) -/
  rtoTicks : Nat
  /-- `RETRY_CEILING` (R10) -/
  retryCeiling : Nat
  /-- `LOCAL_WINDOW` (R11) -/
  localWindow : Half
  /-- `N_SLOTS` (R12) -/
  nSlots : Nat
  /-- whether an empty fragment is admitted while `bytesInFlight` exceeds `peerWindow` (R163, R263; log entry 14) -/
  emptyOverWindow : Bool
deriving DecidableEq, Repr

/-- The ranges R9 to R12 give (`LOCAL_WINDOW`'s is its width). -/
structure Params.Ok (p : Params) : Prop where
  rto_pos : 1 ≤ p.rtoTicks
  rto_lt : p.rtoTicks < 2 ^ 32
  ceiling_le : p.retryCeiling ≤ 255
  slots_pos : 1 ≤ p.nSlots
  slots_le : p.nSlots ≤ 65536

/-- The OPEN host-side parameters (R13). -/
structure HostParams where
  handshakeTimeout : Nat
  pollSlice : Nat
  ackWaitBudget : Nat
deriving DecidableEq, Repr

namespace Config

/-- `RTO_TICKS − 1`; any value the range of R9 admits. -/
opaque rtoTicksLessOne : Fin 4294967295
/-- `RETRY_CEILING` (R10); any value from 0 to 255. -/
opaque retryCeilingByte : BitVec 8
/-- `LOCAL_WINDOW` (R11); any 16-bit value. -/
opaque localWindow : Half
/-- `N_SLOTS − 1`; any value the range of R12 admits. -/
opaque nSlotsLessOne : BitVec 16

/-- Free value (DESIGN CHOICE, log entry 14): whether an empty fragment is admitted while `bytesInFlight` exceeds `peerWindow`. R163's
pseudocode refuses it by the formula of R161, its corner case admits it, and no ruling sets either aside. -/
opaque emptyOverWindow : Bool

/-- The parameters of this block instance: constants, not software-writable (R3). -/
def params : Params :=
  { rtoTicks := rtoTicksLessOne.val + 1
    retryCeiling := retryCeilingByte.toNat
    localWindow := localWindow
    nSlots := nSlotsLessOne.toNat + 1
    emptyOverWindow := emptyOverWindow }

/-- `POLL_SLICE − 1` (R13). -/
opaque pollSliceLessOne : Nat
/-- `HANDSHAKE_TIMEOUT − POLL_SLICE` (R13). -/
opaque handshakeExtra : Nat
/-- `ACK_WAIT_BUDGET − RTO_TICKS − 1` (R13). -/
opaque ackWaitExtra : Nat

/-- The host parameters, with R13's constraints `1 ≤ POLL_SLICE ≤ HANDSHAKE_TIMEOUT` and `ACK_WAIT_BUDGET > RTO_TICKS`
true by construction. -/
def hostParams : HostParams :=
  { handshakeTimeout := pollSliceLessOne + 1 + handshakeExtra
    pollSlice := pollSliceLessOne + 1
    ackWaitBudget := params.rtoTicks + 1 + ackWaitExtra }

/-- `TICK_PERIOD` (R17); no rule of the block depends on it. -/
opaque tickPeriod : Nat

/-- `BLOCK_BASE` divided by 8 KiB (R50, R61, D33: any 8 KiB-aligned address). -/
opaque blockPage : Nat

/-- `BLOCK_BASE` (R50). -/
def blockBase : Nat := 0x2000 * blockPage

/-- The free draw each byte of TX_PAYLOAD, RX_BUF and PKT_OUT holds from a reset until it is written (R40, R252).
The first argument counts the resets, the second is the byte's window offset. -/
opaque resetByte : Nat → Nat → Byte

end Config

end Sys2Proof
end

