-- ==== Sys2Proof/WellFormed.lean ====
section
/-! DEFINITION. Well-formedness of commands and of host program lines (R87, R91, R92). Everything else of the syntax is
bounded by its type. -/

namespace Sys2Proof

/-- Every command the syntax can write is well formed: MF, FID and FO have exactly the widths R87 gives them and no other
command has an operand field. -/
def Instr.wellFormed : Instr → Bool
  | .pack | .unpack => true
  | .connectTx | .connectRx | .disconnectTx | .disconnectRx | .reviveTx | .reviveRx => true
  | .dataTx _ _ _ => true
  | .ackRx | .sweep => true

/-- How many 32-bit words a register of the map spans (R51, R55). -/
def regWords : RegName → Nat
  | .HDR_IN | .HDR_OUT | .TEMPLATE | .SAVED => 10
  | .PKT_OUT => 8
  | .TX_PAYLOAD => 360
  | .RX_BUF => 368
  | .CMD | .RESULT | .STATUS | .NEXT_SEQ | .LAST_PEER_SEQ | .PEER_WINDOW | .BYTES_IN_FLIGHT | .INFLIGHT_COUNT | .NOW
  | .PENDING_SEQ | .TX_LEN | .RX_LEN | .HDR_OUT_PLEN => 1

/-- `NAME+k` stays inside the register; a hex offset is a multiple of 4 inside the window (R50, R52, R91). -/
def Target.wellFormed : Target → Bool
  | .named r k => decide (k < regWords r)
  | .offset off => decide (off < 0x2000 ∧ off % 4 = 0)

/-- A line of a host program is well formed when its target is, its number fits a word, and its byte string fits the buffer
it loads (R91, R92). -/
def HostLine.wellFormed : HostLine → Bool
  | .wr t v => t.wellFormed && decide (v < 2 ^ 32)
  | .rd t => t.wellFormed
  | .command i => i.wellFormed
  | .tick _ => true
  | .txload b => decide (b.length ≤ maxPayload)
  | .txlen n => decide (n < 2 ^ 32)
  | .rxload b => decide (b.length ≤ maxDgram)
  | .rxnone => true
  | .hdrload _ => true

end Sys2Proof
end

