-- ==== Sys2Proof/Decode.lean ====
section
/-! DEFINITION. The command word (R87 to R89): its fields, the opcode map as a table, the decoder and the encoder. -/

namespace Sys2Proof

/-- `OPC`, bits [7:0] (R87). -/
def cmdOpc (w : Word) : Byte := w.extractLsb' 0 8
/-- `MF`, bit 8 (R87). -/
def cmdMf (w : Word) : BitVec 1 := w.extractLsb' 8 1
/-- `FID`, bits [23:16] (R87). -/
def cmdFid (w : Word) : Byte := w.extractLsb' 16 8
/-- `FO`, bits [31:24] (R87). -/
def cmdFo (w : Word) : Byte := w.extractLsb' 24 8

/-- One row of the opcode map: a word is this command's when `word & mask = value` (R88). -/
structure OpcodeRow where
  mask : Word
  value : Word
  build : Word → Instr

/-- The opcode map (R88, spec/opcode_table.json). -/
def opcodeRows : List OpcodeRow :=
  [ { mask := 0xFFFFFFFF#32, value := 0x00000001#32, build := fun _ => .pack },
    { mask := 0xFFFFFFFF#32, value := 0x00000002#32, build := fun _ => .unpack },
    { mask := 0xFFFFFFFF#32, value := 0x00000010#32, build := fun _ => .connectTx },
    { mask := 0xFFFFFFFF#32, value := 0x00000011#32, build := fun _ => .connectRx },
    { mask := 0xFFFFFFFF#32, value := 0x00000012#32, build := fun _ => .disconnectTx },
    { mask := 0xFFFFFFFF#32, value := 0x00000013#32, build := fun _ => .disconnectRx },
    { mask := 0xFFFFFFFF#32, value := 0x00000014#32, build := fun _ => .reviveTx },
    { mask := 0xFFFFFFFF#32, value := 0x00000015#32, build := fun _ => .reviveRx },
    { mask := 0x0000FEFF#32, value := 0x00000020#32, build := fun w => .dataTx (cmdMf w) (cmdFid w) (cmdFo w) },
    { mask := 0xFFFFFFFF#32, value := 0x00000021#32, build := fun _ => .ackRx },
    { mask := 0xFFFFFFFF#32, value := 0x00000022#32, build := fun _ => .sweep } ]

/-- Which field of an illegal word is wrong (R89). -/
def decodeReason (w : Word) : DecodeError :=
  if opcodeRows.all (fun r => r.value.extractLsb' 0 8 != cmdOpc w) then .unknownOpcode
  else if cmdOpc w = 0x20#8 then .reservedBits
  else .operandBits

/-- The decoder: total on every word; a word no row matches is illegal (R88, R89). -/
def decode (w : Word) : Except DecodeError Instr :=
  match opcodeRows.find? (fun r => w &&& r.mask == r.value) with
  | some r => .ok (r.build w)
  | none => .error (decodeReason w)

/-- The encoder, written from the field layout of R87 and the OPC column of R88. -/
def encode : Instr → Word
  | .pack => 0x00000001#32
  | .unpack => 0x00000002#32
  | .connectTx => 0x00000010#32
  | .connectRx => 0x00000011#32
  | .disconnectTx => 0x00000012#32
  | .disconnectRx => 0x00000013#32
  | .reviveTx => 0x00000014#32
  | .reviveRx => 0x00000015#32
  | .dataTx mf fid fo => fo.setWidth 32 <<< 24 ||| fid.setWidth 32 <<< 16 ||| mf.setWidth 32 <<< 8 ||| 0x00000020#32
  | .ackRx => 0x00000021#32
  | .sweep => 0x00000022#32

/-- The command word that the table's bit string `w` of `nbits` bits stands for: one 32-bit word, its bits numbered as R87
numbers them. -/
def commandWord (nbits w : Nat) : Word := BitVec.ofNat 32 (w % 2 ^ nbits)

/-- The instruction the decoder reads from a row's bits. -/
def decodeTableWord (nbits w : Nat) : Option Instr := (decode (commandWord nbits w)).toOption

end Sys2Proof
end

