-- ==== Sys2Proof/Machine/State.lean ====
section
/-! DEFINITION. The state of the block (10_state.md), the reasons a step can stop, and the state after reset (R40). -/

namespace Sys2Proof.Machine

open Sys2Proof

/-- The handshake state (R21). -/
inductive HsState where
  | disconnected
  | connecting
  | connected
  | disconnecting
deriving DecidableEq, Repr

/-- Which exchange a CONNECTING state waits for (R22). -/
inductive PendingKind where
  | connect
  | revive
deriving DecidableEq, Repr

/-- One entry of the in-flight table (R32). -/
structure Entry where
  /-- the fully serialized datagram -/
  bytes : List Byte
  seq : Word
  /-- payload length -/
  len : Nat
  /-- `now` at the last transmission -/
  lastSend : Word
  /-- 0 to RETRY_CEILING, 8 bits (D8, D12) -/
  retries : BitVec 8
deriving DecidableEq, Repr

/-- The bytes of PKT_OUT, TX_PAYLOAD and RX_BUF that have been written since reset, by window offset (R51, R54). A byte
that is not listed holds the free draw of its reset (R252). -/
abbrev Memory := List Host.Cell

/-- Strictly rising addresses: the canonical form. -/
def Memory.rising : Memory → Bool
  | [] => true
  | [_] => true
  | (a, _) :: (b, v) :: rest => decide (a < b) && Memory.rising ((b, v) :: rest)

/-- A window offset inside one of the three byte buffers (R51). -/
def Memory.mapped (a : Nat) : Bool :=
  decide (0x140 ≤ a ∧ a < 0x160) || decide (0x800 ≤ a ∧ a < 0xDA0) || decide (0x1000 ≤ a ∧ a < 0x15C0)

/-- The canonical form of the memory: rising addresses, each inside a byte buffer. An unlisted address reads as "not written
since reset", which no entry can equal. -/
def Memory.wf (m : Memory) : Bool := Memory.rising m && m.all (fun c => Memory.mapped c.1)

/-- The block has no fault: no command raises a trap (R220, R227), and what 93_implementation_defined.md calls a fault is a
result code. No constructor, so nothing raises one. -/
inductive Fault where
deriving DecidableEq, Repr

/-- Inputs the block has no step for. -/
inductive Refusal where
  /-- Raised by an arm of `exec` for a command without a meaning. There is none; safe. -/
  | notModelled (mnemonic : String)
  /-- Raised by a bus access that is not 32 bits wide (R52: "a model refuses it (no step)"); safe. -/
  | subWordAccess
  /-- Raised by a word access at an offset that is not a multiple of 4 (R52); safe. -/
  | misalignedAccess
deriving DecidableEq, Repr

/-- All state of the block (10_state.md), its ports' traces, and the model's own two fields (`input`, `drawEpoch`). -/
structure State where
  /-- `hsState` (R21) -/
  hsState : HsState
  /-- `pendingKind` (R22) -/
  pendingKind : PendingKind
  /-- `pendingSeq` (R23) -/
  pendingSeq : Word
  /-- `discAttempts` (R24) -/
  discAttempts : BitVec 2
  /-- `nextSeq` (R26) -/
  nextSeq : Word
  /-- `lastPeerSeq` (R27) -/
  lastPeerSeq : Word
  /-- `peerWindow` (R28) -/
  peerWindow : Half
  /-- `bytesInFlight` (R29) -/
  bytesInFlight : Half
  /-- `lastHeaderTemplate` (R30) -/
  lastHeaderTemplate : Header
  /-- `savedHeaderForRevive` (R31) -/
  savedHeaderForRevive : Header
  /-- `hasSavedSession` (R31) -/
  hasSavedSession : Bool
  /-- `inflight`, oldest first (R32) -/
  inflight : List Entry
  /-- `now` (R35) -/
  now : Word
  /-- `CMD` (R36) -/
  cmd : Word
  /-- `RESULT` (R36) -/
  result : Word
  /-- `TX_LEN[10:0]` (R36, R90) -/
  txLen : BitVec 11
  /-- `RX_LEN[31]`, NO_DGRAM (R36, R90) -/
  rxNoDgram : Bool
  /-- `RX_LEN[10:0]` (R36, R90) -/
  rxLen : BitVec 11
  /-- `HDR_IN` (R36) -/
  hdrIn : Header
  /-- `HDR_OUT` (R36) -/
  hdrOut : Header
  /-- `HDR_OUT_PLEN` (R36) -/
  hdrOutPlen : BitVec 11
  /-- `PKT_OUT`, `TX_PAYLOAD` and `RX_BUF` (R36), the bytes written since reset -/
  mem : Memory
  /-- the datagrams emitted on the TX port since reset, oldest first (R42, R62) -/
  tx : List (List Byte)
  /-- the words the bus has returned to the host since reset, oldest first (R60) -/
  busOut : List Word
  /-- the model's own: the port events still to come, next first (R66) -/
  input : List HostInput
  /-- the model's own: how many resets there have been, the index of the free draws (R252) -/
  drawEpoch : Nat
deriving DecidableEq, Repr

/-- The machine right after reset (R40, R250). -/
def State.reset : State :=
  { hsState := .disconnected
    pendingKind := .connect
    pendingSeq := 0
    discAttempts := 0
    nextSeq := 0
    lastPeerSeq := 0
    peerWindow := 0
    bytesInFlight := 0
    lastHeaderTemplate := Header.zero
    savedHeaderForRevive := Header.zero
    hasSavedSession := false
    inflight := []
    now := 0
    cmd := 0
    result := 0x000000FF#32
    txLen := 0
    rxNoDgram := false
    rxLen := 0
    hdrIn := Header.zero
    hdrOut := Header.zero
    hdrOutPlen := 0
    mem := []
    tx := []
    busOut := []
    input := []
    drawEpoch := 0 }

end Sys2Proof.Machine
end

