-- ==== Sys2Proof/Machine/Flags.lean ====
section
/-! DEFINITION. The header flags (R82 to R84), the result codes (R221) and the STATUS fields (R51). -/

namespace Sys2Proof.Machine

open Sys2Proof

/-- `flags(h) = h.sf[4:0]` (R19, R82). -/
def headerFlags (h : Header) : BitVec 5 := h.sf.extractLsb' 0 5

/-- `sttl(h) = h.sf[31:5]` (R19, R82): opaque metadata, never interpreted. -/
def headerSttl (h : Header) : BitVec 27 := h.sf.extractLsb' 5 27

/-- `MF`, bit 0 (R83). -/
def flagMF : BitVec 5 := 0x01
/-- `ACK_SETUP`, bit 1 (R83; 90_conflicts.md C1: one flag under four names). -/
def flagAckSetup : BitVec 5 := 0x02
/-- `ACK`, bit 2 (R83). -/
def flagAck : BitVec 5 := 0x04
/-- `REVIVE`, bit 3 (R83). -/
def flagRevive : BitVec 5 := 0x08
/-- `CONNECT`, bit 4 (R83). -/
def flagConnect : BitVec 5 := 0x10

/-- The flags field of a Connect packet (R84): 0x10. -/
def connectFlags : BitVec 5 := flagConnect
/-- The flags field of the teardown packet (R84): 0x1C. -/
def teardownFlags : BitVec 5 := flagConnect ||| flagRevive ||| flagAck
/-- The flags field of a Revive packet (R84): 0x0C. -/
def reviveFlags : BitVec 5 := flagRevive ||| flagAck
/-- The flags field of a data packet (R84, R163): ACK always, MF from the command. -/
def dataFlags (mf : BitVec 1) : BitVec 5 := flagAck ||| mf.setWidth 5

/-- The test of bit 1 of a received header (R84). -/
def hasAckSetup (h : Header) : Bool := (headerFlags h).getLsbD 1

/-- The test of bit 2 of a received header (R84). -/
def hasAck (h : Header) : Bool := (headerFlags h).getLsbD 2

/-- The result codes a command finishes with, and NONE of reset (R221). -/
inductive ResultCode where
  | ok
  | malformedPacket
  | handshakeTimeout
  | handshakeRejected
  | disconnectNotAcknowledged
  | reviveRejected
  | noSessionToRevive
  | windowExhausted
  | notAck
  | disconnectPending
  | badState
  | illegalCommand
  | lengthError
  | none
deriving DecidableEq, Repr

/-- The code numbers (R221). -/
def codeByte : ResultCode → Byte
  | .ok => 0x00
  | .malformedPacket => 0x01
  | .handshakeTimeout => 0x02
  | .handshakeRejected => 0x03
  | .disconnectNotAcknowledged => 0x04
  | .reviveRejected => 0x05
  | .noSessionToRevive => 0x06
  | .windowExhausted => 0x07
  | .notAck => 0x08
  | .disconnectPending => 0x09
  | .badState => 0x0A
  | .illegalCommand => 0x0B
  | .lengthError => 0x0C
  | .none => 0xFF

/-- The RESULT word of `finish(code, a, b)`: both counts saturate at 255 (R19, R221). -/
def resultWord (code : ResultCode) (a b : Nat) : Word :=
  (codeByte code).setWidth 32 ||| BitVec.ofNat 32 (min a 255) <<< 8 ||| BitVec.ofNat 32 (min b 255) <<< 16

/-- The encoding of `hsState` (R21). -/
def hsBits : HsState → BitVec 2
  | .disconnected => 0
  | .connecting => 1
  | .connected => 2
  | .disconnecting => 3

/-- The encoding of `pendingKind` (R22). -/
def pendingBit : PendingKind → BitVec 1
  | .connect => 0
  | .revive => 1

/-- `active` (R25): derived, not stored. -/
def sessionActive (s : State) : Bool := decide (s.hsState = .connected) || decide (s.hsState = .disconnecting)

/-- The STATUS word (R51). -/
def statusWord (s : State) : Word :=
  (hsBits s.hsState).setWidth 32 ||| (BitVec.ofBool (sessionActive s)).setWidth 32 <<< 2
    ||| (BitVec.ofBool s.hasSavedSession).setWidth 32 <<< 3 ||| (pendingBit s.pendingKind).setWidth 32 <<< 4
    ||| s.discAttempts.setWidth 32 <<< 5

end Sys2Proof.Machine
end

