-- ==== Sys2Proof/Machine/Bytes.lean ====
section
/-! DEFINITION. Byte order and bounded arithmetic (R19, R54, R57): little-endian integers, byte lanes of a bus word, and the
saturating difference. -/

namespace Sys2Proof.Machine

open Sys2Proof

/-- Byte lane `j` of a word: bits `[8j+7:8j]` (R54). -/
def byteLane (w : Word) (j : Nat) : Byte := w.extractLsb' (8 * j) 8

/-- The word whose lanes 0 to 3 are the given bytes (R54). -/
def laneWord (b0 b1 b2 b3 : Byte) : Word :=
  b0.setWidth 32 ||| b1.setWidth 32 <<< 8 ||| b2.setWidth 32 <<< 16 ||| b3.setWidth 32 <<< 24

/-- The four lanes of a word, lane 0 first. -/
def wordLanes (w : Word) : List Byte := [byteLane w 0, byteLane w 1, byteLane w 2, byteLane w 3]

/-- `le16` (R19). -/
def le16 (v : Half) : List Byte := [v.extractLsb' 0 8, v.extractLsb' 8 8]

/-- `le32` (R19). -/
def le32 (v : Word) : List Byte := wordLanes v

/-- `bytes[o]`, zero past the end; every reader checks the length first. -/
def byteAt (b : List Byte) (o : Nat) : Byte := b.getD o 0

/-- `rd16` (R19). -/
def rd16 (b : List Byte) (o : Nat) : Half := (byteAt b o).setWidth 16 ||| (byteAt b (o + 1)).setWidth 16 <<< 8

/-- `rd32` (R19). -/
def rd32 (b : List Byte) (o : Nat) : Word :=
  laneWord (byteAt b o) (byteAt b (o + 1)) (byteAt b (o + 2)) (byteAt b (o + 3))

/-- `sat_sub` on window values (R19). -/
def satSub (a b : Half) : Half := if b ≤ a then a - b else 0

/-- The word of four consecutive bytes of a byte string, missing bytes taken as 0 (R92). -/
def packWord (b : List Byte) (k : Nat) : Word := rd32 b (4 * k)

end Sys2Proof.Machine
end

