-- ==== Sys2Proof/Machine/Header.lean ====
section
/-! DEFINITION. The header codec as pure functions (R110, R112, R114) and the header banks' word view (R55, R56). -/

namespace Sys2Proof.Machine

open Sys2Proof

/-- `pack` (R110): the 32 bytes of a header in the layout of R81. Total, with no check of any field. -/
def packHeader (h : Header) : List Byte :=
  h.sid.toList ++ le32 h.sf ++ le32 h.seq ++ le32 h.ack ++ le16 h.wnd ++ [h.fid] ++ [h.fo]

/-- The sixteen bytes of a session id at the head of a byte string (R81). -/
def sidOfBytes (b : List Byte) : Vector Byte 16 := Vector.ofFn (fun i => byteAt b i.val)

/-- The header fields of a byte string of at least 32 bytes (R114). -/
def headerOfBytes (b : List Byte) : Header :=
  { sid := sidOfBytes b
    sf := rd32 b 16
    seq := rd32 b 20
    ack := rd32 b 24
    wnd := rd16 b 28
    fid := byteAt b 30
    fo := byteAt b 31 }

/-- `unpack` (R114): none is `Malformed`; otherwise the header and the payload. Checks nothing but the length. -/
def unpackBytes (b : List Byte) : Option (Header × List Byte) :=
  if b.length < hdrBytes then none else some (headerOfBytes b, b.drop hdrBytes)

/-- `mkHdr` (R112): `sid` and the STTL bits come from the template, everything else from the arguments. -/
def mkHdr (tmpl : Header) (fl : BitVec 5) (seq ack : Word) (wnd : Half) (fid fo : Byte) : Header :=
  { sid := tmpl.sid
    sf := (tmpl.sf.extractLsb' 5 27).setWidth 32 <<< 5 ||| fl.setWidth 32
    seq := seq
    ack := ack
    wnd := wnd
    fid := fid
    fo := fo }

/-- The word SIDj of a session id: `sid[4j+k]` in lane k (R56). -/
def sidWord (sid : Vector Byte 16) (j : Nat) : Word := rd32 sid.toList (4 * j)

/-- A session id with its bytes 4j to 4j+3 replaced by the lanes of a word (R54, R56). -/
def setSidWord (sid : Vector Byte 16) (j : Nat) (v : Word) : Vector Byte 16 :=
  Vector.ofFn (fun i => if i.val / 4 = j then byteLane v (i.val % 4) else byteAt sid.toList i.val)

/-- Word `k` of a header bank (R55); unused bits read as 0. -/
def bankWord (h : Header) : Nat → Word
  | 0 => sidWord h.sid 0
  | 1 => sidWord h.sid 1
  | 2 => sidWord h.sid 2
  | 3 => sidWord h.sid 3
  | 4 => h.sf
  | 5 => h.seq
  | 6 => h.ack
  | 7 => h.wnd.setWidth 32
  | 8 => h.fid.setWidth 32
  | 9 => h.fo.setWidth 32
  | _ => 0

/-- A header after a write of word `k` of its bank: only the bits used are stored (R55). -/
def setBankWord (h : Header) (k : Nat) (v : Word) : Header :=
  match k with
  | 0 => { h with sid := setSidWord h.sid 0 v }
  | 1 => { h with sid := setSidWord h.sid 1 v }
  | 2 => { h with sid := setSidWord h.sid 2 v }
  | 3 => { h with sid := setSidWord h.sid 3 v }
  | 4 => { h with sf := v }
  | 5 => { h with seq := v }
  | 6 => { h with ack := v }
  | 7 => { h with wnd := v.setWidth 16 }
  | 8 => { h with fid := v.setWidth 8 }
  | 9 => { h with fo := v.setWidth 8 }
  | _ => h

end Sys2Proof.Machine
end

