-- ==== Sys2Proof/Machine/Ops.lean ====
section
/-! DEFINITION. The named operations over memory and registers. The block takes no exception (R220, R227): `finish` is the
one way a command ends, with success or with an error code. -/

namespace Sys2Proof.Machine

open Sys2Proof

/-! ### The byte buffers (R51, R54, R252) -/

/-- The byte written at a window offset since reset, if any. -/
def memLookup (a : Nat) : Memory → Option Byte
  | [] => none
  | (k, v) :: rest => if k = a then some v else memLookup a rest

/-- A write of one byte; keeps the canonical form. -/
def memInsert (a : Nat) (v : Byte) : Memory → Memory
  | [] => [(a, v)]
  | (k, w) :: rest =>
    if a < k then (a, v) :: (k, w) :: rest
    else if k = a then (a, v) :: rest
    else (k, w) :: memInsert a v rest

/-- A write of consecutive bytes, the first at offset `a`. -/
def memInsertList (a : Nat) : List Byte → Memory → Memory
  | [], m => m
  | v :: vs, m => memInsertList (a + 1) vs (memInsert a v m)

/-- A read of one byte: the byte written since reset, else the free draw held since reset (R252). -/
def readByte (s : State) (a : Nat) : Byte := (memLookup a s.mem).getD (Config.resetByte s.drawEpoch a)

/-- `n` consecutive bytes from offset `a` on. -/
def readBytes (s : State) (a n : Nat) : List Byte := (List.range n).map (fun i => readByte s (a + i))

/-- The three byte buffers (R51). -/
inductive BufferName where
  | pktOut
  | txPayload
  | rxBuf
deriving DecidableEq, Repr

/-- The window offset a buffer begins at (R51). -/
def bufferBase : BufferName → Nat
  | .pktOut => 0x0140
  | .txPayload => 0x0800
  | .rxBuf => 0x1000

/-- A buffer's length in bytes (R51). -/
def bufferLen : BufferName → Nat
  | .pktOut => 32
  | .txPayload => 1440
  | .rxBuf => 1472

/-! ### Ending a command, the TX port, the time base, reset -/

/-- `finish(code, a, b)` (R19, R220): the one write of RESULT. -/
def finish (code : ResultCode) (a b : Nat) (s : State) : State := { s with result := resultWord code a b }

/-- `finish(code)` (R19). -/
def finishCode (code : ResultCode) (s : State) : State := finish code 0 0 s

/-- `Emit(bytes)` (R19, R62): one datagram on the TX port. -/
def emit (d : List Byte) (s : State) : State := { s with tx := s.tx ++ [d] }

/-- One pulse of the `tick` input (R175). -/
def tickPulse (s : State) : State := { s with now := s.now + 1 }

/-- The reset input (R250, R251): every piece of state takes its value after reset and each buffer byte a new free draw
(R252). Events still to come at the ports are not the block's to clear. -/
def resetPulse (s : State) : State := { State.reset with input := s.input, drawEpoch := s.drawEpoch + 1 }

/-! ### Session registers -/

/-- `acceptReply` (R137): what an accepted Connect or Revive reply does to the session. -/
def acceptReply (h : Header) (s : State) : State :=
  { s with
    lastPeerSeq := h.seq
    nextSeq := h.seq + 1
    peerWindow := h.wnd
    lastHeaderTemplate := h
    inflight := []
    bytesInFlight := 0
    hsState := .connected }

/-- `refresh` (R168): what an ACK-flagged reply does besides retiring; `nextSeq` is not touched. -/
def refreshPeer (h : Header) (s : State) : State :=
  { s with lastPeerSeq := h.seq, lastHeaderTemplate := h, peerWindow := h.wnd }

/-- What a successful Disconnect does (R31, R134): the snapshot is the template as it was, the table is abandoned. -/
def completeDisconnect (s : State) : State :=
  { s with
    savedHeaderForRevive := s.lastHeaderTemplate
    hasSavedSession := true
    inflight := []
    bytesInFlight := 0
    discAttempts := 0
    hsState := .disconnected }

end Sys2Proof.Machine
end

