-- ==== Sys2Proof/Machine/Operands.lean ====
section
/-! DEFINITION. The operand forms of the commands (R90): the payload operand of DATA_TX and REVIVE_TX, and the received
datagram of UNPACK, ACK_RX and the session replies (R63, R118). -/

namespace Sys2Proof.Machine

open Sys2Proof

/-- `L = TX_LEN[10:0]` (R90). -/
def txLength (s : State) : Nat := s.txLen.toNat

/-- `L > 1440` (R90): the payload operand is too long for one datagram. -/
def txTooLong (s : State) : Bool := decide (txLength s > maxPayload)

/-- `TX_PAYLOAD[0..L)` (R90). -/
def txPayloadBytes (s : State) : List Byte := readBytes s (bufferBase .txPayload) (txLength s)

/-- `RX_BUF[0..n)` with `n = RX_LEN[10:0]` (R63, R90). -/
def rxBytes (s : State) : List Byte := readBytes s (bufferBase .rxBuf) s.rxLen.toNat

/-- The four outcomes of `rxDecode` (R118). -/
inductive RxResult where
  | noDgram
  | lenErr
  | malformed
  | ok (h : Header) (payload : List Byte)
deriving DecidableEq, Repr

/-- What `rxDecode` returns (R118): no datagram, then the length bound of R64, then the codec. -/
def rxResult (s : State) : RxResult :=
  if s.rxNoDgram then .noDgram
  else if s.rxLen.toNat > maxDgram then .lenErr
  else match unpackBytes (rxBytes s) with
    | none => .malformed
    | some (h, p) => .ok h p

/-- The state after `rxDecode` (R118, D46): HDR_OUT and HDR_OUT_PLEN are written exactly when a header decoded. -/
def rxDecoded (s : State) : State :=
  match rxResult s with
  | .ok h _ => { s with hdrOut := h, hdrOutPlen := BitVec.ofNat 11 (s.rxLen.toNat - hdrBytes) }
  | _ => s

end Sys2Proof.Machine
end

