-- ==== Sys2Proof/Machine/Codec.lean ====
section
/-! DEFINITION. The codec commands PACK and UNPACK (40_codec.md). Both are legal in every handshake state and touch no
session state (D44). -/

namespace Sys2Proof.Machine

open Sys2Proof

/-- PACK (R111). -/
def execPack (s : State) : Host.Outcome State Fault Refusal :=
  .next (finishCode .ok { s with mem := memInsertList (bufferBase .pktOut) (packHeader s.hdrIn) s.mem })

/-- UNPACK (R115): NO_DGRAM is "no bytes at all: fewer than 32". -/
def execUnpack (s : State) : Host.Outcome State Fault Refusal :=
  .next <|
    match rxResult s with
    | .noDgram => finishCode .malformedPacket s
    | .lenErr => finishCode .lengthError s
    | .malformed => finishCode .malformedPacket s
    | .ok _ _ => finishCode .ok (rxDecoded s)

end Sys2Proof.Machine
end

