-- ==== Sys2Proof/Machine/Scheduler.lean ====
section
/-! DEFINITION. The retransmit scheduler (42_scheduler.md): the window arithmetic, DATA_TX, ACK_RX and SWEEP. -/

namespace Sys2Proof.Machine

open Sys2Proof

/-! ### Window arithmetic -/

/-- `avail()` (R160); only the host uses it. -/
def availWindow (s : State) : Half := satSub s.peerWindow s.bytesInFlight

/-- `admits(L)` (R161), the formula as it stands: the sum is taken without wrap-around. -/
def admits (p : Params) (s : State) (len : Nat) : Bool :=
  decide (s.bytesInFlight.toNat + len ≤ s.peerWindow.toNat) && decide (s.inflight.length < p.nSlots)

/-- What DATA_TX admits (R163): what `admits(L)` admits and, by the corner case of R163, an empty fragment whenever the table has
room. DESIGN CHOICE (safe, log entry 14): where the two disagree, `L = 0` while `bytesInFlight` exceeds `peerWindow`, R163's pseudocode
refuses and its corner case (with R263, which bars only `L ≥ 1`) admits; a free value of the block instance says which. -/
def dataAdmits (p : Params) (s : State) (len : Nat) : Bool :=
  admits p s len || (decide (len = 0) && decide (s.inflight.length < p.nSlots) && p.emptyOverWindow)

/-- `advWnd()` (R162), before the fragment being sent is registered. -/
def advWnd (p : Params) (s : State) : Half := satSub p.localWindow s.bytesInFlight

/-- The sum of the payload lengths of some entries (R29). -/
def sumLen (es : List Entry) : Nat := (es.map Entry.len).sum

/-! ### Sending a fragment -/

/-- `newEntry` (R164). -/
def newEntry (d : List Byte) (seq : Word) (len : Nat) (now : Word) : Entry :=
  { bytes := d, seq := seq, len := len, lastSend := now, retries := 0 }

/-- The header of a data fragment (R163). -/
def dataHeader (p : Params) (mf : BitVec 1) (fid fo : Byte) (s : State) : Header :=
  mkHdr s.lastHeaderTemplate (dataFlags mf) s.nextSeq s.lastPeerSeq (advWnd p s) fid fo

/-- DATA_TX (R163) on a block with parameters `p`. -/
def dataTx (p : Params) (mf : BitVec 1) (fid fo : Byte) (s : State) : State :=
  if s.hsState = .connected then
    if txTooLong s then finishCode .lengthError s
    else if dataAdmits p s (txLength s) then
      let d := packHeader (dataHeader p mf fid fo s) ++ txPayloadBytes s
      finishCode .ok
        { emit d s with
          inflight := s.inflight ++ [newEntry d s.nextSeq (txLength s) s.now]
          bytesInFlight := s.bytesInFlight + BitVec.ofNat 16 (txLength s)
          nextSeq := s.nextSeq + 1 }
    else finishCode .windowExhausted s
  else finishCode .badState s

/-- DATA_TX (R163). -/
def execDataTx (mf : BitVec 1) (fid fo : Byte) (s : State) : Host.Outcome State Fault Refusal :=
  .next (dataTx Config.params mf fid fo s)

/-! ### Cumulative acknowledgment -/

/-- An entry a cumulative acknowledgment `a` retires: `e.seq ≤ a`, unsigned (R167). -/
def ackCovers (a : Word) (e : Entry) : Bool := decide (e.seq ≤ a)

/-- The number of entries `retire(a)` removes (R167). -/
def retiredCount (a : Word) (s : State) : Nat := (s.inflight.filter (ackCovers a)).length

/-- `retire(a)` (R167): the others keep their order. -/
def retire (a : Word) (s : State) : State :=
  { s with
    inflight := s.inflight.filter (fun e => !ackCovers a e)
    bytesInFlight := s.bytesInFlight - BitVec.ofNat 16 (sumLen (s.inflight.filter (ackCovers a))) }

/-- ACK_RX (R166): any ACK-flagged reply refreshes, whatever it retires. -/
def execAckRx (s : State) : Host.Outcome State Fault Refusal :=
  .next <|
    if s.hsState = .connected then
      match rxResult s with
      | .lenErr => finishCode .lengthError s
      | .noDgram => finishCode .malformedPacket s
      | .malformed => finishCode .malformedPacket s
      | .ok h _ =>
        if hasAck h then finish .ok (retiredCount h.ack s) 0 (refreshPeer h (retire h.ack (rxDecoded s)))
        else finishCode .notAck (rxDecoded s)
    else finishCode .badState s

/-! ### The timeout arbiter -/

/-- `expired(e)` (R170): the elapsed time is taken modulo 2^32, and "exceeds" is strict (D5). -/
def expired (p : Params) (now : Word) (e : Entry) : Bool := decide ((now - e.lastSend).toNat > p.rtoTicks)

/-- An entry at the retry ceiling (R171). -/
def atCeiling (p : Params) (e : Entry) : Bool := decide (e.retries.toNat ≥ p.retryCeiling)

/-- A resent entry (R172). -/
def resent (now : Word) (e : Entry) : Entry := { e with retries := e.retries + 1, lastSend := now }

/-- What one sweep does: the table it leaves, the datagrams it emits in order, and the lengths it drops in order. -/
structure SweepResult where
  table : List Entry
  sent : List (List Byte)
  droppedLens : List Nat
deriving DecidableEq, Repr

/-- One sweep over the table, oldest first (R169, R173). -/
def sweepTable (p : Params) (now : Word) : List Entry → SweepResult
  | [] => { table := [], sent := [], droppedLens := [] }
  | e :: rest =>
    let r := sweepTable p now rest
    if expired p now e then
      if atCeiling p e then { r with droppedLens := e.len :: r.droppedLens }
      else { r with table := resent now e :: r.table, sent := e.bytes :: r.sent }
    else { r with table := e :: r.table }

/-- SWEEP (R169) on a block with parameters `p`. -/
def sweep (p : Params) (s : State) : State :=
  let r := sweepTable p s.now s.inflight
  finish .ok r.sent.length r.droppedLens.length
    { s with
      inflight := r.table
      tx := s.tx ++ r.sent
      bytesInFlight := s.bytesInFlight - BitVec.ofNat 16 r.droppedLens.sum }

/-- SWEEP (R169). -/
def execSweep (s : State) : Host.Outcome State Fault Refusal := .next (sweep Config.params s)

end Sys2Proof.Machine
end

