-- ==== Sys2Proof/Machine/Session.lean ====
section
/-! DEFINITION. The session commands (41_session.md): Connect, Disconnect and Revive, each a transmit command and a reply
command. The order of the checks is each rule's own (R130, R224). -/

namespace Sys2Proof.Machine

open Sys2Proof

/-- CONNECT_TX (R131) on a block with parameters `p`. -/
def connectTx (p : Params) (s : State) : State :=
  if s.hsState = .disconnected then
    let h := mkHdr Header.zero connectFlags s.nextSeq 0 p.localWindow 0 0
    finishCode .ok
      { emit (packHeader h) s with
        nextSeq := s.nextSeq + 1
        pendingSeq := s.nextSeq
        pendingKind := .connect
        hsState := .connecting }
  else finishCode .badState s

/-- CONNECT_TX (R131). -/
def execConnectTx (s : State) : Host.Outcome State Fault Refusal := .next (connectTx Config.params s)

/-- CONNECT_RX (R132): only ACK_SETUP and `ack` are tested. -/
def execConnectRx (s : State) : Host.Outcome State Fault Refusal :=
  .next <|
    if s.hsState = .connecting ∧ s.pendingKind = .connect then
      match rxResult s with
      | .lenErr => finishCode .lengthError s
      | .noDgram => finishCode .handshakeTimeout { s with hsState := .disconnected }
      | .malformed => finishCode .malformedPacket { s with hsState := .disconnected }
      | .ok h _ =>
        if hasAckSetup h ∧ h.ack = s.pendingSeq then finishCode .ok (acceptReply h (rxDecoded s))
        else finishCode .handshakeRejected { rxDecoded s with hsState := .disconnected }
    else finishCode .badState s

/-- DISCONNECT_TX (R133). -/
def execDisconnectTx (s : State) : Host.Outcome State Fault Refusal :=
  .next <|
    if s.hsState = .connected then
      let h := mkHdr s.lastHeaderTemplate teardownFlags s.nextSeq s.lastPeerSeq 0 0 0
      finishCode .ok
        { emit (packHeader h) s with
          nextSeq := s.nextSeq + 1
          discAttempts := 0
          hsState := .disconnecting }
    else finishCode .badState s

/-- A Disconnect attempt without an ACK-flagged reply (R134): the third gives up and leaves the session active. -/
def failDisconnectAttempt (s : State) : State :=
  let n := s.discAttempts + 1
  if n.toNat = discAttemptLimit then
    finish .disconnectNotAcknowledged discAttemptLimit 0 { s with discAttempts := 0, hsState := .connected }
  else finish .disconnectPending n.toNat 0 { s with discAttempts := n }

/-- DISCONNECT_RX (R134): any ACK-flagged reply completes the teardown. -/
def execDisconnectRx (s : State) : Host.Outcome State Fault Refusal :=
  .next <|
    if s.hsState = .disconnecting then
      match rxResult s with
      | .lenErr => finishCode .lengthError s
      | .noDgram => failDisconnectAttempt s
      | .malformed => failDisconnectAttempt s
      | .ok h _ =>
        if hasAck h then finishCode .ok (completeDisconnect (rxDecoded s))
        else failDisconnectAttempt (rxDecoded s)
    else finishCode .badState s

/-- REVIVE_TX (R135) on a block with parameters `p`: the snapshot check comes first (D18). -/
def reviveTx (p : Params) (s : State) : State :=
  if s.hasSavedSession = false then finishCode .noSessionToRevive s
  else if s.hsState = .disconnected then
    if txTooLong s then finishCode .lengthError s
    else
      let h := mkHdr s.savedHeaderForRevive reviveFlags s.nextSeq s.lastPeerSeq p.localWindow 0 0
      finishCode .ok
        { emit (packHeader h ++ txPayloadBytes s) s with
          nextSeq := s.nextSeq + 1
          pendingKind := .revive
          hsState := .connecting }
  else finishCode .badState s

/-- REVIVE_TX (R135). -/
def execReviveTx (s : State) : Host.Outcome State Fault Refusal := .next (reviveTx Config.params s)

/-- REVIVE_RX (R136): the reply's `ack` is not compared with anything. -/
def execReviveRx (s : State) : Host.Outcome State Fault Refusal :=
  .next <|
    if s.hsState = .connecting ∧ s.pendingKind = .revive then
      match rxResult s with
      | .lenErr => finishCode .lengthError s
      | .noDgram => finishCode .reviveRejected { s with hsState := .disconnected }
      | .malformed => finishCode .malformedPacket { s with hsState := .disconnected }
      | .ok h _ =>
        if hasAckSetup h then finishCode .ok (acceptReply h (rxDecoded s))
        else finishCode .reviveRejected { rxDecoded s with hsState := .disconnected }
    else finishCode .badState s

end Sys2Proof.Machine
end

