-- ==== Sys2Proof/Machine/Dispatch.lean ====
section
/-! DEFINITION. One arm per command: the meaning it runs (R88). -/

namespace Sys2Proof.Machine

open Sys2Proof

def exec (i : Instr) (s : State) : Host.Outcome State Fault Refusal :=
  match i with
  | .pack => Sys2Proof.Machine.execPack s
  | .unpack => Sys2Proof.Machine.execUnpack s
  | .connectTx => Sys2Proof.Machine.execConnectTx s
  | .connectRx => Sys2Proof.Machine.execConnectRx s
  | .disconnectTx => Sys2Proof.Machine.execDisconnectTx s
  | .disconnectRx => Sys2Proof.Machine.execDisconnectRx s
  | .reviveTx => Sys2Proof.Machine.execReviveTx s
  | .reviveRx => Sys2Proof.Machine.execReviveRx s
  | .dataTx mf fid fo => Sys2Proof.Machine.execDataTx mf fid fo s
  | .ackRx => Sys2Proof.Machine.execAckRx s
  | .sweep => Sys2Proof.Machine.execSweep s

end Sys2Proof.Machine
end

