-- ==== Sys2Proof/Machine/RegMap.lean ====
section
/-! DEFINITION. The host register map (R51, R53 to R56): which register a window offset names, what a read of it returns and
what a write of it stores. Executing a command is the bus's affair (Machine/Bus.lean). -/

namespace Sys2Proof.Machine

open Sys2Proof

/-- The header banks (R51, R55). -/
inductive BankName where
  | hdrIn
  | hdrOut
  | template
  | saved
deriving DecidableEq, Repr

/-- The words of the register map (R51). `bank b k` and `buffer b k` are word `k` of a bank or byte buffer. -/
inductive MappedWord where
  | cmd | result | status | nextSeq | lastPeerSeq | peerWindow | bytesInFlight | inflightCount | now | pendingSeq
  | txLen | rxLen | hdrOutPlen
  | bank (b : BankName) (k : Nat)
  | buffer (b : BufferName) (k : Nat)
deriving DecidableEq, Repr

/-- The single-word registers and their offsets (R51). -/
def fixedWords : List (Nat × MappedWord) :=
  [ (0x0000, .cmd), (0x0004, .result), (0x0008, .status), (0x000C, .nextSeq), (0x0010, .lastPeerSeq),
    (0x0014, .peerWindow), (0x0018, .bytesInFlight), (0x001C, .inflightCount), (0x0020, .now), (0x0024, .pendingSeq),
    (0x0028, .txLen), (0x002C, .rxLen), (0x00A8, .hdrOutPlen) ]

/-- The offset a header bank begins at (R51). -/
def bankBase : BankName → Nat
  | .hdrIn => 0x0040
  | .hdrOut => 0x0080
  | .template => 0x00C0
  | .saved => 0x0100

/-- The header bank an offset lies in: ten words each (R55). -/
def bankAt (off : Nat) : Option BankName :=
  [BankName.hdrIn, .hdrOut, .template, .saved].find? (fun b => decide (bankBase b ≤ off ∧ off < bankBase b + 40))

/-- The byte buffer an offset lies in (R51). -/
def bufferAt (off : Nat) : Option BufferName :=
  [BufferName.pktOut, .txPayload, .rxBuf].find? (fun b => decide (bufferBase b ≤ off ∧ off < bufferBase b + bufferLen b))

/-- The register map (R51): what a word-aligned window offset names; none is an unmapped offset (R53). -/
def mappedWord (off : Nat) : Option MappedWord :=
  match fixedWords.lookup off, bankAt off, bufferAt off with
  | some w, _, _ => some w
  | none, some b, _ => some (.bank b ((off - bankBase b) / 4))
  | none, none, some b => some (.buffer b ((off - bufferBase b) / 4))
  | none, none, none => none

/-- The header a bank presents (R51). -/
def bankHeader (s : State) : BankName → Header
  | .hdrIn => s.hdrIn
  | .hdrOut => s.hdrOut
  | .template => s.lastHeaderTemplate
  | .saved => s.savedHeaderForRevive

/-- Word `k` of a byte buffer: bytes 4k to 4k+3, lane 0 first (R54). -/
def bufferWord (s : State) (b : BufferName) (k : Nat) : Word := rd32 (readBytes s (bufferBase b + 4 * k) 4) 0

/-- The RX_LEN word (R36, R51): NO_DGRAM in bit 31, the length in bits 10..0. -/
def rxLenWord (s : State) : Word := (BitVec.ofBool s.rxNoDgram).setWidth 32 <<< 31 ||| s.rxLen.setWidth 32

/-- What a read of a mapped word returns; bits not listed read as 0 (R51). -/
def readMapped (s : State) : MappedWord → Word
  | .cmd => s.cmd
  | .result => s.result
  | .status => statusWord s
  | .nextSeq => s.nextSeq
  | .lastPeerSeq => s.lastPeerSeq
  | .peerWindow => s.peerWindow.setWidth 32
  | .bytesInFlight => s.bytesInFlight.setWidth 32
  | .inflightCount => (BitVec.ofNat 17 s.inflight.length).setWidth 32
  | .now => s.now
  | .pendingSeq => s.pendingSeq
  | .txLen => s.txLen.setWidth 32
  | .rxLen => rxLenWord s
  | .hdrOutPlen => s.hdrOutPlen.setWidth 32
  | .bank b k => bankWord (bankHeader s b) k
  | .buffer b k => bufferWord s b k

/-- What a write of a mapped word stores: unused bits are ignored, read-only words keep their value (R51, R53), a buffer
write replaces all four bytes (R54). -/
def writeMapped (s : State) (v : Word) : MappedWord → State
  | .cmd => { s with cmd := v }
  | .txLen => { s with txLen := v.extractLsb' 0 11 }
  | .rxLen => { s with rxNoDgram := v.getLsbD 31, rxLen := v.extractLsb' 0 11 }
  | .bank .hdrIn k => { s with hdrIn := setBankWord s.hdrIn k v }
  | .buffer .txPayload k => { s with mem := memInsertList (bufferBase .txPayload + 4 * k) (wordLanes v) s.mem }
  | .buffer .rxBuf k => { s with mem := memInsertList (bufferBase .rxBuf + 4 * k) (wordLanes v) s.mem }
  | .result | .status | .nextSeq | .lastPeerSeq | .peerWindow | .bytesInFlight | .inflightCount | .now | .pendingSeq
  | .hdrOutPlen => s
  | .bank .hdrOut _ | .bank .template _ | .bank .saved _ => s
  | .buffer .pktOut _ => s

end Sys2Proof.Machine
end

