-- ==== Sys2Proof/Machine/Bus.lean ====
section
/-! DEFINITION. What one event at the block's ports does: bus writes and reads (R52, R53, R60), a tick (R175), a reset (R250),
and the platform's address decode (R50, R61). -/

namespace Sys2Proof.Machine

open Sys2Proof

/-- The command a word just stored in CMD runs (R60, R88); an illegal word runs nothing and finishes with ILLEGAL_COMMAND
(R89). -/
def runCommand (w : Word) (s : State) : Host.Outcome State Fault Refusal :=
  match decode w with
  | .ok i => exec i s
  | .error _ => .next (finishCode .illegalCommand s)

/-- A word write at a window offset (R53, R60): CMD stores the word and then runs it; every other register only stores. -/
def busWrite (off : Nat) (v : Word) (s : State) : Host.Outcome State Fault Refusal :=
  match mappedWord off with
  | some .cmd => runCommand v (writeMapped s v .cmd)
  | some r => .next (writeMapped s v r)
  | none => .next s

/-- What a word read at a window offset returns (R53). -/
def busRead (off : Nat) (s : State) : Word :=
  match mappedWord off with
  | some r => readMapped s r
  | none => 0

/-- Why an access is no operation of the block (R52). -/
def accessRefusal (off : BitVec 13) (size : AccessSize) : Option Refusal :=
  if size ≠ .word then some .subWordAccess
  else if off.toNat % 4 ≠ 0 then some .misalignedAccess
  else none

/-- One event at the ports. A read has no side effect: it only returns a word (R60). -/
def serve (ev : HostInput) (s : State) : Host.Outcome State Fault Refusal :=
  match ev with
  | .write off size v =>
    match accessRefusal off size with
    | some r => .refused r
    | none => busWrite off.toNat v s
  | .read off size =>
    match accessRefusal off size with
    | some r => .refused r
    | none => .next { s with busOut := s.busOut ++ [busRead off.toNat s] }
  | .tick => .next (tickPulse s)
  | .reset => .next (resetPulse s)

/-- The window offset of a host-bus address (R50); none is an address outside the block's window. -/
def windowOffset (addr : Nat) : Option (BitVec 13) :=
  if Config.blockBase ≤ addr ∧ addr < Config.blockBase + 0x2000 then some (BitVec.ofNat 13 (addr - Config.blockBase)) else none

/-- `MemWrite(addr, 4, v)` (R19) as an event at the block's port. -/
def memWriteEvent (addr : Nat) (v : Word) : Option HostInput := (windowOffset addr).map (fun o => .write o .word v)

/-- `MemRead(addr, 4)` (R19) as an event at the block's port. -/
def memReadEvent (addr : Nat) : Option HostInput := (windowOffset addr).map (fun o => .read o .word)

end Sys2Proof.Machine
end

