-- ==== Sys2Proof/Machine/Step.lean ====
section
/-! DEFINITION. One step of the block: the next event at its ports (R60, R66, R70). -/

namespace Sys2Proof.Machine

open Sys2Proof

/-- The block takes the next event at its ports, whole, in the order the host issues them (R66, R70); with none it does
nothing (R37, R234). -/
def step (s : State) : Host.Outcome State Fault Refusal :=
  match s.input with
  | [] => .next s
  | ev :: rest => serve ev { s with input := rest }

/-- `s` with the write of one command word to CMD as its next port event: the block runs a command when the host writes CMD
(R37, R60). -/
def State.withFetchWord (s : State) (nbits w : Nat) : State :=
  { s with input := .write 0 .word (commandWord nbits w) :: s.input }

end Sys2Proof.Machine
end

