-- ==== Sys2Proof/Machine/Assembler.lean ====
section
/-! DEFINITION. Host programs (R91, R92): the register names' offsets and the port events each line stands for. -/

namespace Sys2Proof.Machine

open Sys2Proof

/-- `offset(NAME)` (R51, R91). -/
def regOffset : RegName → Nat
  | .CMD => 0x0000
  | .RESULT => 0x0004
  | .STATUS => 0x0008
  | .NEXT_SEQ => 0x000C
  | .LAST_PEER_SEQ => 0x0010
  | .PEER_WINDOW => 0x0014
  | .BYTES_IN_FLIGHT => 0x0018
  | .INFLIGHT_COUNT => 0x001C
  | .NOW => 0x0020
  | .PENDING_SEQ => 0x0024
  | .TX_LEN => 0x0028
  | .RX_LEN => 0x002C
  | .HDR_IN => 0x0040
  | .HDR_OUT => 0x0080
  | .HDR_OUT_PLEN => 0x00A8
  | .TEMPLATE => 0x00C0
  | .SAVED => 0x0100
  | .PKT_OUT => 0x0140
  | .TX_PAYLOAD => 0x0800
  | .RX_BUF => 0x1000

/-- The window offset of a target: `NAME+k` is byte offset `4k` (R91). -/
def targetOffset : Target → Nat
  | .named r k => regOffset r + 4 * k
  | .offset off => off

/-- `wr TARGET, VALUE` (R91). -/
def writeLine (t : Target) (v : Word) : HostInput := .write (BitVec.ofNat 13 (targetOffset t)) .word v

/-- `rd TARGET` (R91). -/
def readLine (t : Target) : HostInput := .read (BitVec.ofNat 13 (targetOffset t)) .word

/-- The writes that load a byte string into a buffer, missing bytes of the last word taken as 0 (R92). -/
def loadBuffer (r : RegName) (b : List Byte) : List HostInput :=
  (List.range ((b.length + 3) / 4)).map (fun k => writeLine (.named r k) (packWord b k))

/-- The ten writes of `hdrload` (R92). -/
def loadHeader (h : Header) : List HostInput :=
  [ writeLine (.named .HDR_IN 0) (packWord h.sid.toList 0), writeLine (.named .HDR_IN 1) (packWord h.sid.toList 1),
    writeLine (.named .HDR_IN 2) (packWord h.sid.toList 2), writeLine (.named .HDR_IN 3) (packWord h.sid.toList 3),
    writeLine (.named .HDR_IN 4) h.sf, writeLine (.named .HDR_IN 5) h.seq, writeLine (.named .HDR_IN 6) h.ack,
    writeLine (.named .HDR_IN 7) (h.wnd.setWidth 32), writeLine (.named .HDR_IN 8) (h.fid.setWidth 32),
    writeLine (.named .HDR_IN 9) (h.fo.setWidth 32) ]

/-- The port events one line stands for (R91, R92). -/
def expandLine : HostLine → List HostInput
  | .wr t v => [writeLine t (BitVec.ofNat 32 v)]
  | .rd t => [readLine t]
  | .command i => [writeLine (.named .CMD 0) (encode i)]
  | .tick n => List.replicate n .tick
  | .txload b => loadBuffer .TX_PAYLOAD b ++ [writeLine (.named .TX_LEN 0) (BitVec.ofNat 32 b.length)]
  | .txlen n => [writeLine (.named .TX_LEN 0) (BitVec.ofNat 32 n)]
  | .rxload b => loadBuffer .RX_BUF b ++ [writeLine (.named .RX_LEN 0) (BitVec.ofNat 32 b.length)]
  | .rxnone => [writeLine (.named .RX_LEN 0) 0x80000000#32]
  | .hdrload h => loadHeader h

/-- The port events of a whole program, in order (R91). -/
def expandProgram (ls : List HostLine) : List HostInput := ls.flatMap expandLine

end Sys2Proof.Machine
end

