-- ==== Sys2Proof/Machine/HostSequences.lean ====
section
/-! DEFINITION. The host sequences (43_host_sequences.md): the exchanges, `sendMessage` and `waitForAck` that a conforming host
runs on the block. They are the block's environment, not commands of it (R6): each is a function of the block's state and of
what the transport will answer, and drives the block through the same port events as `step`. -/

namespace Sys2Proof.Machine

open Sys2Proof

/-- What one `receiveDatagram(T)` returns: bytes, the timeout signal or an error. -/
inductive Received where
  | datagram (bytes : List Byte)
  | timedOut
  | error
deriving DecidableEq, Repr

/-- One answer of the transport and the ticks that pass before it; never more than the timeout passes (R190). -/
structure Reception where
  elapsed : Nat
  what : Received
deriving DecidableEq, Repr

/-- The block and what its environment will do: one reception per receive, for each datagram the block emits whether its send
failed (R205; a missing entry is a send that succeeded), and the ticks that pass before each further command or register read of
the host, outside a receive (93_implementation_defined.md §1: any value; a missing entry is no tick; log entry 15). -/
structure HostSys where
  block : State
  rx : List Reception
  sendErrs : List Bool
  gaps : List Nat
  /-- the host's own note that a transport error has left a Disconnect pending (R192) -/
  recoverFirst : Bool
deriving DecidableEq, Repr

/-- Why a host operation fails. -/
inductive HostFailure where
  /-- the block's result code (R221) -/
  | code (c : Byte)
  /-- a transport error (R205) -/
  | transport
  /-- `sendMessage` without a CONNECTED session (R194) -/
  | notActive
  /-- a message of more than 256 fragments (R194) -/
  | tooLong
  /-- the wait budget ran out (R200) -/
  | waitBudget
deriving DecidableEq, Repr

/-- How a host operation ends. -/
inductive HostResult where
  | success
  | failure (why : HostFailure)
  /-- the transport's listed answers are used up while the host still waits: the run goes on beyond them (R264) -/
  | waiting
  /-- a received datagram longer than 1472 bytes: what a host does with it is not specified (R64, 93_implementation_defined.md §3) -/
  | unspecified
deriving DecidableEq, Repr

/-- Whether the call has returned to its caller. -/
def HostResult.returned : HostResult → Bool
  | .success => true
  | .failure _ => true
  | .waiting => false
  | .unspecified => false

/-! ### Block operations (R190) -/

/-- One port event. Every event the host issues is a word access, a tick or nothing else, so none is refused. -/
def hostAct (h : HostSys) (ev : HostInput) : HostSys :=
  match serve ev h.block with
  | .next s => { h with block := s }
  | .fault _ => h
  | .refused _ => h

/-- One line of a host program. -/
def hostLine (l : HostLine) (h : HostSys) : HostSys := (expandLine l).foldl hostAct h

/-- The ticks that pass before the host's next command or register read. Ticks between the accesses of one load, or between a
command and the read of its RESULT, are seen by neither, so they count before the next operation. -/
def hostPause (h : HostSys) : HostSys := hostLine (.tick (h.gaps.headD 0)) { h with gaps := h.gaps.tail }

/-- A register read: the word and the host after it. -/
def hostRead (r : RegName) (h : HostSys) : Word × HostSys :=
  let h0 := hostPause h
  (busRead (regOffset r) h0.block, hostAct h0 (readLine (.named r 0)))

/-- What `cmd(X)` reports: RESULT[7:0], and whether the transport failed to send a datagram the command emitted (R205). -/
structure CmdReport where
  sys : HostSys
  code : Byte
  sendFailed : Bool
deriving DecidableEq, Repr

/-- `cmd(X)`: write the command word, then read RESULT. -/
def hostCmd (i : Instr) (h : HostSys) : CmdReport :=
  let h0 := hostPause h
  let h1 := hostLine (.command i) h0
  let emitted := h1.block.tx.length - h0.block.tx.length
  { sys := { hostAct h1 (readLine (.named .RESULT 0)) with sendErrs := h0.sendErrs.drop emitted }
    code := (busRead (regOffset .RESULT) h1.block).extractLsb' 0 8
    sendFailed := (h0.sendErrs.take emitted).any id }

/-- `receiveDatagram(T)`: at most `T` ticks pass (R190), perhaps none (R264). -/
def hostReceive (timeout : Nat) (h : HostSys) : Option (Received × HostSys) :=
  match h.rx with
  | [] => none
  | r :: rest => some (r.what, hostLine (.tick (min r.elapsed timeout)) { h with rx := rest })

/-- `present(r)`: `rxload` of the bytes, or `rxnone`; none where the bytes cannot be presented (R63, R64). -/
def hostPresent (r : Received) (h : HostSys) : Option HostSys :=
  match r with
  | .datagram b => if b.length > maxDgram then none else some (hostLine (.rxload b) h)
  | .timedOut => some (hostLine .rxnone h)
  | .error => some (hostLine .rxnone h)

/-- Success on OK, else a failure with the code. -/
def codeResult (c : Byte) : HostResult := if c = codeByte .ok then .success else .failure (.code c)

/-! ### Handshakes -/

/-- The common tail of Connect and Revive: block for one reply, present it, run the reply command (R191, R193). -/
def awaitReply (hp : HostParams) (reply : Instr) (h : HostSys) : HostResult × HostSys :=
  match hostReceive hp.handshakeTimeout h with
  | none => (.waiting, h)
  | some (r, h1) =>
    match hostPresent r h1 with
    | none => (.unspecified, h1)
    | some h2 =>
      let c := hostCmd reply h2
      if r = .error then (.failure .transport, c.sys) else (codeResult c.code, c.sys)

/-- A send error leaves an exchange pending: the host completes it with NO_DGRAM (D51). -/
def abandonExchange (reply : Instr) (h : HostSys) : HostResult × HostSys :=
  (.failure .transport, (hostCmd reply (hostLine .rxnone h)).sys)

/-- `connect()` (R191). -/
def hostConnect (hp : HostParams) (h : HostSys) : HostResult × HostSys :=
  let c := hostCmd .connectTx h
  if c.code ≠ codeByte .ok then (.failure (.code c.code), c.sys)
  else if c.sendFailed then abandonExchange .connectRx c.sys
  else awaitReply hp .connectRx c.sys

/-- The receive loop of `disconnect()` (R192) over the transport's answers. -/
def disconnectLoop (hp : HostParams) : List Reception → HostSys → HostResult × HostSys
  | [], h => (.waiting, { h with rx := [] })
  | r :: rest, h =>
    let h1 := hostLine (.tick (min r.elapsed hp.handshakeTimeout)) { h with rx := rest }
    match hostPresent r.what h1 with
    | none => (.unspecified, h1)
    | some h2 =>
      let c := hostCmd .disconnectRx h2
      if r.what = .error ∧ c.code ≠ codeByte .ok then (.failure .transport, c.sys)
      else if c.code = codeByte .ok then (.success, c.sys)
      else if c.code = codeByte .disconnectNotAcknowledged then (.failure (.code c.code), c.sys)
      else disconnectLoop hp rest c.sys

/-- `disconnect()` (R192). -/
def hostDisconnect (hp : HostParams) (h : HostSys) : HostResult × HostSys :=
  let c := hostCmd .disconnectTx h
  if c.code ≠ codeByte .ok then (.failure (.code c.code), c.sys)
  else if c.sendFailed then (.failure .transport, c.sys)
  else disconnectLoop hp c.sys.rx c.sys

/-- `rxnone ; cmd(DISCONNECT_RX)`, again while the code is DISCONNECT_PENDING, at most so many times. -/
def recoverLoop : Nat → HostSys → HostSys
  | 0, h => h
  | n + 1, h =>
    let c := hostCmd .disconnectRx (hostLine .rxnone h)
    if c.code = codeByte .disconnectPending then recoverLoop n c.sys else c.sys

/-- Bringing the block out of DISCONNECTING after a transport error (R192, D51): until the code is not DISCONNECT_PENDING. The
limit of three attempts ends the loop (R134); the bound of four covers every value of the two bits of `discAttempts`. -/
def recoverDisconnect (h : HostSys) : HostSys := recoverLoop (discAttemptLimit + 1) h

/-- `revive(msg)` (R193). -/
def hostRevive (hp : HostParams) (msg : List Byte) (h : HostSys) : HostResult × HostSys :=
  if msg.length > maxPayload then (.failure (.code (codeByte .lengthError)), h)
  else
    let c := hostCmd .reviveTx (hostLine (.txload msg) h)
    if c.code ≠ codeByte .ok then (.failure (.code c.code), c.sys)
    else if c.sendFailed then abandonExchange .reviveRx c.sys
    else awaitReply hp .reviveRx c.sys

/-! ### The acknowledgment wait -/

/-- The loop of `waitForAck()` (R200) over the transport's answers: receive, consume, sweep, budget test. -/
def ackWaitLoop (hp : HostParams) (start : Word) : List Reception → HostSys → HostResult × HostSys
  | [], h => (.waiting, { h with rx := [] })
  | r :: rest, h =>
    let h1 := hostLine (.tick (min r.elapsed hp.pollSlice)) { h with rx := rest }
    let sweepAndGoOn := fun (g : HostSys) =>
      let w := hostCmd .sweep g
      let now := hostRead .NOW w.sys
      if w.sendFailed then (HostResult.failure .transport, w.sys)
      else if (now.1 - start).toNat ≥ hp.ackWaitBudget then (.failure .waitBudget, now.2)
      else ackWaitLoop hp start rest now.2
    match r.what with
    | .error => (.failure .transport, h1)
    | .timedOut => sweepAndGoOn h1
    | .datagram b =>
      if b.length > maxDgram then (.unspecified, h1)
      else
        let c := hostCmd .ackRx (hostLine (.rxload b) h1)
        if c.code = codeByte .ok then (.success, c.sys) else sweepAndGoOn c.sys

/-- `waitForAck()` (R200). -/
def waitForAck (hp : HostParams) (h : HostSys) : HostResult × HostSys :=
  let start := hostRead .NOW h
  ackWaitLoop hp start.1 start.2.rx start.2

/-! ### sendMessage -/

/-- One fragment of a message (R196). -/
structure Fragment where
  payload : List Byte
  fo : Byte
  mf : BitVec 1
deriving DecidableEq, Repr

/-- The split path of R196: `k = ceil(L / 1440)` pieces of at most 1440 bytes, MORE-FRAGMENTS on all but the last. -/
def splitMessage (msg : List Byte) : List Fragment :=
  let k := (msg.length + (maxPayload - 1)) / maxPayload
  (List.range k).map (fun i =>
    { payload := (msg.drop (i * maxPayload)).take maxPayload
      fo := BitVec.ofNat 8 i
      mf := BitVec.ofBool (decide (i + 1 < k)) })

/-- The fragment plan (R196): a message that fits one fragment and the available window goes whole. -/
def fragmentPlan (avail : Nat) (msg : List Byte) : List Fragment :=
  if msg.length ≤ maxPayload ∧ msg.length ≤ avail then [{ payload := msg, fo := 0, mf := 0 }] else splitMessage msg

/-- DATA_TX until it is admitted (R198): WINDOW_EXHAUSTED waits for an acknowledgment before the next attempt. Every wait that
succeeds uses up an answer of the transport, so `attempts` bounds the loop. -/
def sendFragment (hp : HostParams) (fid : Byte) (f : Fragment) : Nat → HostSys → HostResult × HostSys
  | 0, h => (.waiting, h)
  | attempts + 1, h =>
    let c := hostCmd (.dataTx f.mf fid f.fo) h
    if c.sendFailed then (.failure .transport, c.sys)
    else if c.code = codeByte .ok then (.success, c.sys)
    else if c.code = codeByte .windowExhausted then
      match waitForAck hp c.sys with
      | (.success, h1) => sendFragment hp fid f attempts h1
      | (r, h1) => (r, h1)
    else (.failure (.code c.code), c.sys)

/-- Step 4's test (R198): the next fragment would not be admitted. -/
def mustWaitFor (next : Fragment) (h : HostSys) : Bool × HostSys :=
  let fly := hostRead .BYTES_IN_FLIGHT h
  let pw := hostRead .PEER_WINDOW fly.2
  let n := hostRead .INFLIGHT_COUNT pw.2
  (decide (fly.1.toNat + next.payload.length > pw.1.toNat) || decide (n.1.toNat = Config.params.nSlots), n.2)

/-- The fragment loop (R198). -/
def sendFragments (hp : HostParams) (fid : Byte) : List Fragment → HostSys → HostResult × HostSys
  | [], h => (.success, h)
  | f :: rest, h =>
    match sendFragment hp fid f (h.rx.length + 1) (hostLine (.txload f.payload) h) with
    | (.success, h1) =>
      match rest.head? with
      | none => (.success, h1)
      | some g =>
        let w := mustWaitFor g h1
        if w.1 then
          match waitForAck hp w.2 with
          | (.success, h2) => sendFragments hp fid rest h2
          | (r, h2) => (r, h2)
        else sendFragments hp fid rest w.2
    | (r, h1) => (r, h1)

/-- Step 5 (R199): nothing in flight is success at once; otherwise one final wait decides. -/
def finalAck (hp : HostParams) (h : HostSys) : HostResult × HostSys :=
  let n := hostRead .INFLIGHT_COUNT h
  if n.1 = 0 then (.success, n.2) else waitForAck hp n.2

/-- `sendMessage(msg)` (R194 to R199). -/
def sendMessage (hp : HostParams) (msg : List Byte) (h : HostSys) : HostResult × HostSys :=
  let st := hostRead .STATUS h
  if st.1.extractLsb' 0 2 ≠ hsBits .connected then (.failure .notActive, st.2)
  else if msg.length > maxFrags * maxPayload then (.failure .tooLong, st.2)
  else
    let c := hostCmd .sweep st.2
    if c.sendFailed then (.failure .transport, c.sys)
    else
      let seq := hostRead .NEXT_SEQ c.sys
      let pw := hostRead .PEER_WINDOW seq.2
      let fly := hostRead .BYTES_IN_FLIGHT pw.2
      match sendFragments hp (seq.1.extractLsb' 0 8) (fragmentPlan (pw.1.toNat - fly.1.toNat) msg) fly.2 with
      | (.success, h1) => finalAck hp h1
      | (r, h1) => (r, h1)

/-! ### A host's operations, one after the other -/

/-- What the caller asks of the host. -/
inductive HostOp where
  | connect
  | disconnect
  | revive (msg : List Byte)
  | send (msg : List Byte)
deriving DecidableEq, Repr

/-- R192's duty before a Connect or a data transfer: a Disconnect that a transport error left pending is finished first. -/
def finishPending (h : HostSys) : HostSys :=
  if h.recoverFirst then { recoverDisconnect h with recoverFirst := false } else h

/-- One operation of a conforming host (R190 to R205). DESIGN CHOICE (log entry 8), where R192 leaves it open: a Revive carries its
message, so it counts as a data transfer; and every Disconnect that fails with a transport error is noted for recovery, also one
whose error came with the third attempt, where R192 calls the session left DISCONNECTING and R134 has already made it CONNECTED with
DISCONNECT_NOT_ACKNOWLEDGED. There the recovery is one DISCONNECT_RX, which answers BAD_STATE. -/
def hostOp (hp : HostParams) (op : HostOp) (h : HostSys) : HostResult × HostSys :=
  match op with
  | .connect => hostConnect hp (finishPending h)
  | .disconnect =>
    let r := hostDisconnect hp h
    (r.1, { r.2 with recoverFirst := h.recoverFirst || decide (r.1 = .failure .transport) })
  | .revive msg => hostRevive hp msg (finishPending h)
  | .send msg => sendMessage hp msg (finishPending h)

/-- The operations a caller asks for, in order, with the result of each. A caller may go on after any that returned, success or
failure; an operation that has not returned is never cut off (R205: "Cancellation is not supported mid-call"). -/
def hostRun (hp : HostParams) : List HostOp → HostSys → List HostResult × HostSys
  | [], h => ([], h)
  | op :: rest, h =>
    let r := hostOp hp op h
    if r.1.returned then
      let rs := hostRun hp rest r.2
      (r.1 :: rs.1, rs.2)
    else ([r.1], r.2)

end Sys2Proof.Machine
end

