-- ==== Sys2Proof/Safety.lean ====
section
/-! DEFINITION. The terms the statements use: the invariants of the block's state (R29, R32 to R34, R62, R221) and the names of
what a command reads (R51, R63, R88). -/

namespace Sys2Proof.Machine

open Sys2Proof

/-! ### Invariants -/

/-- `bytesInFlight = Σ e.len` (R29, R165). -/
def BytesAccounted (s : State) : Prop := s.bytesInFlight.toNat = (s.inflight.map Entry.len).sum

/-- The entry invariants (R32, R33). -/
structure EntryOk (p : Params) (e : Entry) : Prop where
  seq_in_bytes : e.seq = rd32 e.bytes 20
  bytes_length : e.bytes.length = 32 + e.len
  len_le : e.len ≤ 1440
  retries_le : e.retries.toNat ≤ p.retryCeiling

/-- The table holds at most `N_SLOTS` entries, each as R33 says (R32, R33). -/
def TableOk (p : Params) (s : State) : Prop := s.inflight.length ≤ p.nSlots ∧ ∀ e ∈ s.inflight, EntryOk p e

/-- The table is empty in DISCONNECTED and CONNECTING (R34). -/
def TableQuiet (s : State) : Prop := s.hsState = .disconnected ∨ s.hsState = .connecting → s.inflight = []

/-- Every datagram on the TX port is 32 to 1472 bytes long (R62). -/
def TxOk (s : State) : Prop := ∀ d ∈ s.tx, 32 ≤ d.length ∧ d.length ≤ 1472

/-- `discAttempts` counts at most two failed attempts, and only while a Disconnect is pending (R24, R134). -/
def AttemptsOk (s : State) : Prop := s.discAttempts.toNat ≤ 2 ∧ (s.hsState ≠ .disconnecting → s.discAttempts = 0)

/-- The values `RESULT[7:0]` may hold (R221): 0x0D to 0xFE are never written. -/
def ResultOk (s : State) : Prop :=
  s.result.extractLsb' 24 8 = 0 ∧ ((s.result.extractLsb' 0 8).toNat ≤ 0x0C ∨ s.result = 0x000000FF#32)

/-- All of them, HDR_OUT_PLEN's bound (R118), and the canonical form of the buffers' memory, which is the model's own (log entry
3). -/
structure Inv (s : State) : Prop where
  bytes : BytesAccounted s
  table : TableOk Config.params s
  quiet : TableQuiet s
  tx : TxOk s
  attempts : AttemptsOk s
  result : ResultOk s
  plen : s.hdrOutPlen.toNat ≤ 1440
  mem : Memory.wf s.mem = true

/-! ### What a command reads -/

/-- RX_LEN presents a datagram of at least a header and at most 1472 bytes (R63, R64, R93). -/
def RxDecodes (s : State) : Prop := s.rxNoDgram = false ∧ 32 ≤ s.rxLen.toNat ∧ s.rxLen.toNat ≤ 1472

/-- RX_LEN presents a datagram shorter than a header (R64, R93). -/
def RxShort (s : State) : Prop := s.rxNoDgram = false ∧ s.rxLen.toNat < 32

/-- RX_LEN presents a length no datagram has (R64). -/
def RxTooLong (s : State) : Prop := s.rxNoDgram = false ∧ 1472 < s.rxLen.toNat

/-- The header of the datagram RX_BUF and RX_LEN present: `headerOfBytes` of `RX_BUF[0..n)` at 0x1000 (R51, R63, R114). -/
def rxHeader (s : State) : Header := headerOfBytes (readBytes s 0x1000 s.rxLen.toNat)

/-- The state with the decoded header in HDR_OUT and its payload length in HDR_OUT_PLEN (R118). -/
def withDecoded (s : State) : State :=
  { s with hdrOut := rxHeader s, hdrOutPlen := BitVec.ofNat 11 (s.rxLen.toNat - 32) }

/-- The words that are no command (R88, R89). -/
def IllegalWord (w : Word) : Prop :=
  w &&& 0x0000FEFF#32 ≠ 0x00000020#32 ∧ w ∉ ([0x01#32, 0x02#32, 0x10#32, 0x11#32, 0x12#32, 0x13#32, 0x14#32, 0x15#32, 0x21#32, 0x22#32] : List Word)

/-- The word offsets R51 maps, apart from CMD and the writable registers. -/
def ReadOnlyOffset (off : Nat) : Prop :=
  (0x04 ≤ off ∧ off < 0x28) ∨ (0x80 ≤ off ∧ off < 0xAC) ∨ (0xC0 ≤ off ∧ off < 0xE8) ∨ (0x100 ≤ off ∧ off < 0x128)
    ∨ (0x140 ≤ off ∧ off < 0x160)

/-- The offsets of the window R51 does not map. -/
def UnmappedOffset (off : Nat) : Prop :=
  (0x30 ≤ off ∧ off < 0x40) ∨ (0x68 ≤ off ∧ off < 0x80) ∨ (0xAC ≤ off ∧ off < 0xC0) ∨ (0xE8 ≤ off ∧ off < 0x100)
    ∨ (0x128 ≤ off ∧ off < 0x140) ∨ (0x160 ≤ off ∧ off < 0x800) ∨ (0xDA0 ≤ off ∧ off < 0x1000)
    ∨ (0x15C0 ≤ off ∧ off < 0x2000)

end Sys2Proof.Machine
end

