-- ==== Sys2Proof/Certificates/Slice0/Obligations.lean ====
section
/-! DEFINITION. The statements for the provers, from the numbered rules of spec/. -/

open Sys2Proof Sys2Proof.Machine

/-! ### Encodings (30_encoding.md) -/

/-- Decoding an encoded command gives it back, with every operand at every value (R87, R88). -/
def Obligations.DecodeOfEncodeIsTheCommand : Prop := ∀ i : Instr, decode (encode i) = .ok i

/-- Each command has one word: a word that decodes is the encoding of what it decodes to (R87, R88). -/
def Obligations.EncodeOfDecodeIsTheWord : Prop := ∀ (w : Word) (i : Instr), decode w = .ok i → encode i = w

/-- The decoder selects on the full word (R88, R89): exactly the words outside the map are rejected, and DATA_TX's fields are
bits 8, [23:16] and [31:24]. -/
def Obligations.DecoderSelectsOnTheFullWord : Prop :=
  ∀ w : Word,
    (w &&& 0x0000FEFF#32 = 0x00000020#32 →
      decode w = .ok (.dataTx (w.extractLsb' 8 1) (w.extractLsb' 16 8) (w.extractLsb' 24 8))) ∧
    (IllegalWord w ↔ ∃ e, decode w = .error e)

/-- A few words written out from the encoding of R87 decode to the commands R88 gives them. -/
def Obligations.WrittenOutWordsDecode : Prop :=
  decode 0x00000001#32 = .ok .pack ∧ decode 0x00000002#32 = .ok .unpack ∧ decode 0x00000010#32 = .ok .connectTx ∧
  decode 0x00000011#32 = .ok .connectRx ∧ decode 0x00000012#32 = .ok .disconnectTx ∧ decode 0x00000013#32 = .ok .disconnectRx ∧
  decode 0x00000014#32 = .ok .reviveTx ∧ decode 0x00000015#32 = .ok .reviveRx ∧
  decode 0x02650120#32 = .ok (.dataTx 1 0x65 0x02) ∧ decode 0x00000021#32 = .ok .ackRx ∧ decode 0x00000022#32 = .ok .sweep

/-! ### Steps of the port (20_memory.md) -/

/-- A step whose next port event writes a word to CMD stores the word and runs the command it decodes to (R60, R88). -/
def Obligations.StepRunsTheDecodedCommand : Prop :=
  ∀ (s : State) (w : Word) (rest : List HostInput) (i : Instr),
    s.input = .write 0 .word w :: rest → decode w = .ok i → step s = exec i { s with input := rest, cmd := w }

/-- An illegal command word is stored, executes nothing and finishes with ILLEGAL_COMMAND (R89). -/
def Obligations.IllegalWordOnlyReports : Prop :=
  ∀ (s : State) (w : Word) (rest : List HostInput),
    s.input = .write 0 .word w :: rest → IllegalWord w →
      step s = .next { s with input := rest, cmd := w, result := 0x0000000B#32 }

/-- One tick advances `now` by one modulo 2^32 and does nothing else (R175). -/
def Obligations.TickOnlyAdvancesNow : Prop :=
  ∀ (s : State) (rest : List HostInput),
    s.input = .tick :: rest → step s = .next { s with input := rest, now := s.now + 1 }

/-- The reset input gives every piece of state its value of R40 (R250); the buffers are UNSPECIFIED there. -/
def Obligations.ResetGivesTheListedValues : Prop :=
  ∀ (s : State) (rest : List HostInput), s.input = .reset :: rest →
    ∃ t, step s = .next t ∧
      t.hsState = .disconnected ∧ t.pendingKind = .connect ∧ t.pendingSeq = 0 ∧ t.discAttempts = 0 ∧
      sessionActive t = false ∧ t.nextSeq = 0 ∧ t.lastPeerSeq = 0 ∧ t.peerWindow = 0 ∧ t.bytesInFlight = 0 ∧
      t.lastHeaderTemplate = Header.zero ∧ t.savedHeaderForRevive = Header.zero ∧ t.hasSavedSession = false ∧
      t.inflight = [] ∧ t.now = 0 ∧ t.cmd = 0 ∧ t.result = 0x000000FF#32 ∧ t.txLen = 0 ∧ t.rxLen = 0 ∧
      t.rxNoDgram = false ∧ t.hdrOutPlen = 0 ∧ t.hdrIn = Header.zero ∧ t.hdrOut = Header.zero

/-- The model's own part of the reset input (log entries 3 and 4): the output traces start anew ("since reset", R42), the events
still to come stay, and every buffer byte is the free draw of the new reset (R252). -/
def Obligations.ResetStartsNewTracesAndDraws : Prop :=
  ∀ (s : State) (rest : List HostInput), s.input = .reset :: rest →
    ∃ t, step s = .next t ∧ t.tx = [] ∧ t.busOut = [] ∧ t.input = rest ∧
      (∀ a, readByte t a = Config.resetByte (s.drawEpoch + 1) a)

/-- The machine starts with every register at its value of R40, and with nothing on the TX port. -/
def Obligations.StartIsTheResetState : Prop :=
  core.reset.hsState = .disconnected ∧ core.reset.pendingKind = .connect ∧ core.reset.pendingSeq = 0 ∧
  core.reset.discAttempts = 0 ∧ sessionActive core.reset = false ∧ core.reset.nextSeq = 0 ∧ core.reset.lastPeerSeq = 0 ∧
  core.reset.peerWindow = 0 ∧ core.reset.bytesInFlight = 0 ∧ core.reset.lastHeaderTemplate = Header.zero ∧
  core.reset.savedHeaderForRevive = Header.zero ∧ core.reset.hasSavedSession = false ∧ core.reset.inflight = [] ∧
  core.reset.now = 0 ∧ core.reset.cmd = 0 ∧ core.reset.result = 0x000000FF#32 ∧ core.reset.txLen = 0 ∧
  core.reset.rxNoDgram = false ∧ core.reset.rxLen = 0 ∧ core.reset.hdrOutPlen = 0 ∧ core.reset.hdrIn = Header.zero ∧
  core.reset.hdrOut = Header.zero ∧ core.reset.tx = []

/-- A sub-word or misaligned access is refused (R52), and nothing else ever is: every other event, every command among them, has a
next state (by inference from R53, R130 and R220). That a step with no event to come leaves the state is log entry 1, the model's
choice. -/
def Obligations.OnlyBadAccessesAreRefused : Prop :=
  ∀ s : State,
    (∀ off size v rest, s.input = .write off size v :: rest → (size ≠ .word ∨ off.toNat % 4 ≠ 0) →
      ∃ r, step s = .refused r) ∧
    (∀ off size rest, s.input = .read off size :: rest → (size ≠ .word ∨ off.toNat % 4 ≠ 0) → ∃ r, step s = .refused r) ∧
    ((∀ off size v rest, s.input = .write off size v :: rest → size = .word ∧ off.toNat % 4 = 0) →
      (∀ off size rest, s.input = .read off size :: rest → size = .word ∧ off.toNat % 4 = 0) → ∃ t, step s = .next t)

/-- Reads of unmapped offsets return 0, and writes to unmapped or read-only offsets change nothing (R53). -/
def Obligations.UnmappedAndReadOnlyOffsets : Prop :=
  ∀ (s : State) (off : BitVec 13) (rest : List HostInput), off.toNat % 4 = 0 →
    (s.input = .read off .word :: rest → UnmappedOffset off.toNat →
      step s = .next { s with input := rest, busOut := s.busOut ++ [0] }) ∧
    (∀ v, s.input = .write off .word v :: rest → (UnmappedOffset off.toNat ∨ ReadOnlyOffset off.toNat) →
      step s = .next { s with input := rest })

/-- A word read returns the word its offset names, has no side effect (R60), and at the single-word registers returns their bits
(R51). -/
def Obligations.SingleWordRegistersRead : Prop :=
  (∀ (s : State) (off : BitVec 13) (rest : List HostInput), s.input = .read off .word :: rest → off.toNat % 4 = 0 →
    step s = .next { s with input := rest, busOut := s.busOut ++ [busRead off.toNat s] }) ∧
  ∀ s : State,
    busRead 0x00 s = s.cmd ∧ busRead 0x04 s = s.result ∧
    (busRead 0x08 s).extractLsb' 0 2 = hsBits s.hsState ∧
    (busRead 0x08 s).getLsbD 2 = (decide (s.hsState = .connected) || decide (s.hsState = .disconnecting)) ∧
    (busRead 0x08 s).getLsbD 3 = s.hasSavedSession ∧ (busRead 0x08 s).getLsbD 4 = decide (s.pendingKind = .revive) ∧
    (busRead 0x08 s).extractLsb' 5 2 = s.discAttempts ∧ (busRead 0x08 s).extractLsb' 7 25 = 0 ∧
    busRead 0x0C s = s.nextSeq ∧ busRead 0x10 s = s.lastPeerSeq ∧ (busRead 0x14 s).toNat = s.peerWindow.toNat ∧
    (busRead 0x18 s).toNat = s.bytesInFlight.toNat ∧
    (s.inflight.length ≤ 65536 → (busRead 0x1C s).toNat = s.inflight.length) ∧
    busRead 0x20 s = s.now ∧ busRead 0x24 s = s.pendingSeq ∧ (busRead 0x28 s).toNat = s.txLen.toNat ∧
    (busRead 0x2C s).toNat = (if s.rxNoDgram then 2 ^ 31 else 0) + s.rxLen.toNat ∧
    (busRead 0xA8 s).toNat = s.hdrOutPlen.toNat

/-- Writes of TX_LEN and RX_LEN store the bits used and only store (R51, R60). -/
def Obligations.LengthRegistersStoreTheirBits : Prop :=
  ∀ (s : State) (v : Word) (rest : List HostInput),
    (s.input = .write 0x28 .word v :: rest →
      step s = .next { s with input := rest, txLen := v.extractLsb' 0 11 }) ∧
    (s.input = .write 0x2C .word v :: rest →
      step s = .next { s with input := rest, rxNoDgram := v.getLsbD 31, rxLen := v.extractLsb' 0 11 })

/-- Byte buffers are words in little-endian lanes; a write replaces exactly its four bytes (R54). -/
def Obligations.ByteBuffersUseLittleEndianLanes : Prop :=
  (∀ (s : State) (b : BufferName) (k j : Nat), 4 * k < bufferLen b → j < 4 →
    (busRead (bufferBase b + 4 * k) s).extractLsb' (8 * j) 8 = readByte s (bufferBase b + 4 * k + j)) ∧
  (∀ (s : State) (off : BitVec 13) (v : Word) (rest : List HostInput),
    s.input = .write off .word v :: rest → off.toNat % 4 = 0 →
    ((0x800 ≤ off.toNat ∧ off.toNat < 0xDA0) ∨ (0x1000 ≤ off.toNat ∧ off.toNat < 0x15C0)) →
    ∃ m, step s = .next { s with input := rest, mem := m } ∧
      (∀ j < 4, readByte { s with mem := m } (off.toNat + j) = v.extractLsb' (8 * j) 8) ∧
      (∀ a, a < off.toNat ∨ off.toNat + 4 ≤ a → readByte { s with mem := m } a = readByte s a))

/-- What a header bank's ten words present (R55, R56). -/
def Obligations.HeaderBanksPresentTheHeader : Prop :=
  ∀ (s : State) (base : Nat) (h : Header),
    (base, h) ∈ [(0x40, s.hdrIn), (0x80, s.hdrOut), (0xC0, s.lastHeaderTemplate), (0x100, s.savedHeaderForRevive)] →
    (∀ (j k : Nat) (hj : j < 4) (hk : k < 4),
      (busRead (base + 4 * j) s).extractLsb' (8 * k) 8 = h.sid[4 * j + k]'(by omega)) ∧
    busRead (base + 0x10) s = h.sf ∧ busRead (base + 0x14) s = h.seq ∧ busRead (base + 0x18) s = h.ack ∧
    (busRead (base + 0x1C) s).toNat = h.wnd.toNat ∧ (busRead (base + 0x20) s).toNat = h.fid.toNat ∧
    (busRead (base + 0x24) s).toNat = h.fo.toNat

/-- A write of a word of HDR_IN stores the bits used of that word and changes no other word (R55, R60). -/
def Obligations.HdrInStoresTheBitsUsed : Prop :=
  ∀ (s : State) (off : BitVec 13) (v : Word) (rest : List HostInput),
    s.input = .write off .word v :: rest → off.toNat % 4 = 0 → 0x40 ≤ off.toNat → off.toNat < 0x68 →
    ∃ h, step s = .next { s with input := rest, hdrIn := h } ∧
      busRead off.toNat { s with hdrIn := h } =
        v &&& (if off.toNat < 0x5C then 0xFFFFFFFF#32 else if off.toNat = 0x5C then 0x0000FFFF#32 else 0x000000FF#32) ∧
      (∀ a, a % 4 = 0 → a ≠ off.toNat → busRead a { s with hdrIn := h } = busRead a s)

/-- `rxload B` and `txload B` present exactly the bytes of `B` to the commands and change nothing but the buffer and its
length register (R63, R90, R92). -/
def Obligations.LoadsPresentTheirBytes : Prop :=
  ∀ (g : HostSys) (b : List Byte),
    (b.length ≤ 1472 → ∃ m,
      hostLine (.rxload b) g =
        { g with block := { g.block with mem := m, rxNoDgram := false, rxLen := BitVec.ofNat 11 b.length } } ∧
      rxBytes (hostLine (.rxload b) g).block = b ∧
      (∀ a, a < 0x1000 → readByte (hostLine (.rxload b) g).block a = readByte g.block a)) ∧
    (b.length ≤ 1440 → ∃ m,
      hostLine (.txload b) g = { g with block := { g.block with mem := m, txLen := BitVec.ofNat 11 b.length } } ∧
      txPayloadBytes (hostLine (.txload b) g).block = b ∧
      (∀ a, a < 0x800 ∨ 0xDA0 ≤ a → readByte (hostLine (.txload b) g).block a = readByte g.block a))

/-! ### The codec (40_codec.md) -/

/-- `pack(h)`: the fields in wire order, integers least significant byte first (R57, R81, R110). -/
def Obligations.HeaderPacksInWireOrder : Prop :=
  ∀ h : Header,
    packHeader h = h.sid.toList ++
      [h.sf.extractLsb' 0 8, h.sf.extractLsb' 8 8, h.sf.extractLsb' 16 8, h.sf.extractLsb' 24 8,
       h.seq.extractLsb' 0 8, h.seq.extractLsb' 8 8, h.seq.extractLsb' 16 8, h.seq.extractLsb' 24 8,
       h.ack.extractLsb' 0 8, h.ack.extractLsb' 8 8, h.ack.extractLsb' 16 8, h.ack.extractLsb' 24 8,
       h.wnd.extractLsb' 0 8, h.wnd.extractLsb' 8 8, h.fid, h.fo]

/-- `unpack(b)`: Malformed below 32 bytes; otherwise each field from its bytes and the rest as payload (R114). -/
def Obligations.UnpackReadsEachField : Prop :=
  ∀ b : List Byte,
    (b.length < 32 → unpackBytes b = none) ∧
    (32 ≤ b.length → unpackBytes b = some (headerOfBytes b, b.drop 32) ∧
      (∀ (i : Nat) (hi : i < 16), (headerOfBytes b).sid[i] = b.getD i 0) ∧
      (headerOfBytes b).sf.toNat = (b.getD 16 0).toNat + 256 * (b.getD 17 0).toNat + 256 ^ 2 * (b.getD 18 0).toNat
        + 256 ^ 3 * (b.getD 19 0).toNat ∧
      (headerOfBytes b).seq.toNat = (b.getD 20 0).toNat + 256 * (b.getD 21 0).toNat + 256 ^ 2 * (b.getD 22 0).toNat
        + 256 ^ 3 * (b.getD 23 0).toNat ∧
      (headerOfBytes b).ack.toNat = (b.getD 24 0).toNat + 256 * (b.getD 25 0).toNat + 256 ^ 2 * (b.getD 26 0).toNat
        + 256 ^ 3 * (b.getD 27 0).toNat ∧
      (headerOfBytes b).wnd.toNat = (b.getD 28 0).toNat + 256 * (b.getD 29 0).toNat ∧
      (headerOfBytes b).fid = b.getD 30 0 ∧ (headerOfBytes b).fo = b.getD 31 0)

/-- The round-trip laws of R116: `pack` and `unpack` are inverse to each other. -/
def Obligations.CodecRoundTrips : Prop :=
  (∀ (h : Header) (p : List Byte), unpackBytes (packHeader h ++ p) = some (h, p)) ∧
  (∀ (b : List Byte) (h : Header) (p : List Byte), unpackBytes b = some (h, p) → packHeader h ++ p = b)

/-- `mkHdr` takes `sid` and the STTL from the template and nothing else (R112). -/
def Obligations.MkHdrCopiesSidAndSttl : Prop :=
  ∀ (tmpl : Header) (fl : BitVec 5) (seq ack : Word) (wnd : Half) (fid fo : Byte),
    (mkHdr tmpl fl seq ack wnd fid fo).sid = tmpl.sid ∧
    (mkHdr tmpl fl seq ack wnd fid fo).sf.extractLsb' 5 27 = tmpl.sf.extractLsb' 5 27 ∧
    (mkHdr tmpl fl seq ack wnd fid fo).sf.extractLsb' 0 5 = fl ∧
    (mkHdr tmpl fl seq ack wnd fid fo).seq = seq ∧ (mkHdr tmpl fl seq ack wnd fid fo).ack = ack ∧
    (mkHdr tmpl fl seq ack wnd fid fo).wnd = wnd ∧ (mkHdr tmpl fl seq ack wnd fid fo).fid = fid ∧
    (mkHdr tmpl fl seq ack wnd fid fo).fo = fo

/-- PACK (R111), in every state: PKT_OUT holds the packed HDR_IN and nothing else but RESULT changes. -/
def Obligations.PackWritesPktOut : Prop :=
  decode 0x00000001#32 = .ok .pack ∧
  ∀ s : State, ∃ m, exec .pack s = .next { s with mem := m, result := 0x00000000#32 } ∧
    readBytes { s with mem := m } 0x140 32 = packHeader s.hdrIn ∧
    (∀ a, a < 0x140 ∨ 0x160 ≤ a → readByte { s with mem := m } a = readByte s a)

/-- UNPACK (R115), in every handshake state and for every RX_LEN. -/
def Obligations.UnpackDecodesTheDatagram : Prop :=
  decode 0x00000002#32 = .ok .unpack ∧
  ∀ s : State,
    (s.rxNoDgram = true → exec .unpack s = .next { s with result := 0x00000001#32 }) ∧
    (RxTooLong s → exec .unpack s = .next { s with result := 0x0000000C#32 }) ∧
    (RxShort s → exec .unpack s = .next { s with result := 0x00000001#32 }) ∧
    (RxDecodes s → exec .unpack s = .next { withDecoded s with result := 0x00000000#32 })

/-! ### Session commands (41_session.md) -/

/-- CONNECT_TX (R131). -/
def Obligations.ConnectTxSendsTheConnect : Prop :=
  decode 0x00000010#32 = .ok .connectTx ∧
  ∀ s : State,
    (s.hsState = .disconnected →
      exec .connectTx s = .next
        { s with
          tx := s.tx ++ [List.replicate 16 0 ++ [0x10, 0, 0, 0] ++ le32 s.nextSeq ++ [0, 0, 0, 0]
            ++ le16 Config.params.localWindow ++ [0, 0]]
          nextSeq := s.nextSeq + 1
          pendingSeq := s.nextSeq
          pendingKind := .connect
          hsState := .connecting
          result := 0x00000000#32 }) ∧
    (s.hsState ≠ .disconnected → exec .connectTx s = .next { s with result := 0x0000000A#32 })

/-- CONNECT_RX (R132, R137). -/
def Obligations.ConnectRxConsumesTheReply : Prop :=
  decode 0x00000011#32 = .ok .connectRx ∧
  ∀ s : State,
    (¬ (s.hsState = .connecting ∧ s.pendingKind = .connect) → exec .connectRx s = .next { s with result := 0x0000000A#32 }) ∧
    (s.hsState = .connecting → s.pendingKind = .connect →
      (RxTooLong s → exec .connectRx s = .next { s with result := 0x0000000C#32 }) ∧
      (s.rxNoDgram = true → exec .connectRx s = .next { s with hsState := .disconnected, result := 0x00000002#32 }) ∧
      (RxShort s → exec .connectRx s = .next { s with hsState := .disconnected, result := 0x00000001#32 }) ∧
      (RxDecodes s → (rxHeader s).sf.getLsbD 1 = true → (rxHeader s).ack = s.pendingSeq →
        exec .connectRx s = .next
          { withDecoded s with
            lastPeerSeq := (rxHeader s).seq
            nextSeq := (rxHeader s).seq + 1
            peerWindow := (rxHeader s).wnd
            lastHeaderTemplate := rxHeader s
            inflight := []
            bytesInFlight := 0
            hsState := .connected
            result := 0x00000000#32 }) ∧
      (RxDecodes s → ¬ ((rxHeader s).sf.getLsbD 1 = true ∧ (rxHeader s).ack = s.pendingSeq) →
        exec .connectRx s = .next { withDecoded s with hsState := .disconnected, result := 0x00000003#32 }))

/-- DISCONNECT_TX (R133). -/
def Obligations.DisconnectTxSendsTheTeardown : Prop :=
  decode 0x00000012#32 = .ok .disconnectTx ∧
  ∀ s : State,
    (s.hsState = .connected →
      exec .disconnectTx s = .next
        { s with
          tx := s.tx ++ [s.lastHeaderTemplate.sid.toList
            ++ le32 ((s.lastHeaderTemplate.sf.extractLsb' 5 27).setWidth 32 <<< 5 ||| 0x1C)
            ++ le32 s.nextSeq ++ le32 s.lastPeerSeq ++ [0, 0] ++ [0, 0]]
          nextSeq := s.nextSeq + 1
          discAttempts := 0
          hsState := .disconnecting
          result := 0x00000000#32 }) ∧
    (s.hsState ≠ .connected → exec .disconnectTx s = .next { s with result := 0x0000000A#32 })

/-- DISCONNECT_RX (R134), for every attempt count a run can show (R24). -/
def Obligations.DisconnectRxConsumesOneAttempt : Prop :=
  decode 0x00000013#32 = .ok .disconnectRx ∧
  ∀ s : State,
    (s.hsState ≠ .disconnecting → exec .disconnectRx s = .next { s with result := 0x0000000A#32 }) ∧
    (s.hsState = .disconnecting → RxTooLong s → exec .disconnectRx s = .next { s with result := 0x0000000C#32 }) ∧
    (s.hsState = .disconnecting → RxDecodes s → (rxHeader s).sf.getLsbD 2 = true →
      exec .disconnectRx s = .next
        { withDecoded s with
          savedHeaderForRevive := s.lastHeaderTemplate
          hasSavedSession := true
          inflight := []
          bytesInFlight := 0
          discAttempts := 0
          hsState := .disconnected
          result := 0x00000000#32 }) ∧
    (∀ u : State, s.hsState = .disconnecting →
      ((s.rxNoDgram = true ∨ RxShort s) ∧ u = s ∨ RxDecodes s ∧ (rxHeader s).sf.getLsbD 2 = false ∧ u = withDecoded s) →
      (s.discAttempts = 0 → exec .disconnectRx s = .next { u with discAttempts := 1, result := 0x00000109#32 }) ∧
      (s.discAttempts = 1 → exec .disconnectRx s = .next { u with discAttempts := 2, result := 0x00000209#32 }) ∧
      (s.discAttempts = 2 →
        exec .disconnectRx s = .next { u with discAttempts := 0, hsState := .connected, result := 0x00000304#32 }))

/-- REVIVE_TX (R135). -/
def Obligations.ReviveTxSendsTheRevive : Prop :=
  decode 0x00000014#32 = .ok .reviveTx ∧
  ∀ s : State,
    (s.hasSavedSession = false → exec .reviveTx s = .next { s with result := 0x00000006#32 }) ∧
    (s.hasSavedSession = true → s.hsState ≠ .disconnected → exec .reviveTx s = .next { s with result := 0x0000000A#32 }) ∧
    (s.hasSavedSession = true → s.hsState = .disconnected → 1440 < s.txLen.toNat →
      exec .reviveTx s = .next { s with result := 0x0000000C#32 }) ∧
    (s.hasSavedSession = true → s.hsState = .disconnected → s.txLen.toNat ≤ 1440 →
      exec .reviveTx s = .next
        { s with
          tx := s.tx ++ [s.savedHeaderForRevive.sid.toList
            ++ le32 ((s.savedHeaderForRevive.sf.extractLsb' 5 27).setWidth 32 <<< 5 ||| 0x0C)
            ++ le32 s.nextSeq ++ le32 s.lastPeerSeq ++ le16 Config.params.localWindow ++ [0, 0]
            ++ readBytes s 0x800 s.txLen.toNat]
          nextSeq := s.nextSeq + 1
          pendingKind := .revive
          hsState := .connecting
          result := 0x00000000#32 })

/-- REVIVE_RX (R136, R137). -/
def Obligations.ReviveRxConsumesTheReply : Prop :=
  decode 0x00000015#32 = .ok .reviveRx ∧
  ∀ s : State,
    (¬ (s.hsState = .connecting ∧ s.pendingKind = .revive) → exec .reviveRx s = .next { s with result := 0x0000000A#32 }) ∧
    (s.hsState = .connecting → s.pendingKind = .revive →
      (RxTooLong s → exec .reviveRx s = .next { s with result := 0x0000000C#32 }) ∧
      (s.rxNoDgram = true → exec .reviveRx s = .next { s with hsState := .disconnected, result := 0x00000005#32 }) ∧
      (RxShort s → exec .reviveRx s = .next { s with hsState := .disconnected, result := 0x00000001#32 }) ∧
      (RxDecodes s → (rxHeader s).sf.getLsbD 1 = true →
        exec .reviveRx s = .next
          { withDecoded s with
            lastPeerSeq := (rxHeader s).seq
            nextSeq := (rxHeader s).seq + 1
            peerWindow := (rxHeader s).wnd
            lastHeaderTemplate := rxHeader s
            inflight := []
            bytesInFlight := 0
            hsState := .connected
            result := 0x00000000#32 }) ∧
      (RxDecodes s → (rxHeader s).sf.getLsbD 1 = false →
        exec .reviveRx s = .next { withDecoded s with hsState := .disconnected, result := 0x00000005#32 }))

/-- The transitions of `hsState` the commands make, each with the command and the result it comes with (R138). -/
def Obligations.HandshakeTransitions : Prop :=
  ∀ (i : Instr) (s t : State), exec i s = .next t →
    t.hsState = s.hsState ∨
    (s.hsState = .disconnected ∧ i = .connectTx ∧ t.result = 0x00000000#32 ∧ t.hsState = .connecting ∧ t.pendingKind = .connect) ∨
    (s.hsState = .disconnected ∧ i = .reviveTx ∧ s.hasSavedSession = true ∧ t.result = 0x00000000#32 ∧
      t.hsState = .connecting ∧ t.pendingKind = .revive) ∨
    (s.hsState = .connecting ∧ (i = .connectRx ∧ s.pendingKind = .connect ∨ i = .reviveRx ∧ s.pendingKind = .revive) ∧
      ((t.result = 0x00000000#32 ∧ t.hsState = .connected) ∨
       (t.result ∈ ([0x01, 0x02, 0x03, 0x05] : List Word) ∧ t.hsState = .disconnected))) ∨
    (s.hsState = .connected ∧ i = .disconnectTx ∧ t.result = 0x00000000#32 ∧ t.hsState = .disconnecting) ∨
    (s.hsState = .disconnecting ∧ i = .disconnectRx ∧
      ((t.result = 0x00000000#32 ∧ t.hsState = .disconnected ∧ t.hasSavedSession = true ∧ t.inflight = []) ∨
       (t.result = 0x00000304#32 ∧ t.hsState = .connected)))

/-- Three receive attempts without any datagram (R134, §8 Scenario 4): the Disconnect fails and the session stays active with
its table as it was. -/
def Obligations.ThreeSilentAttemptsLeaveTheSessionActive : Prop :=
  ∀ s : State, s.hsState = .disconnecting → s.discAttempts = 0 → s.rxNoDgram = true →
    ∃ t u v, exec .disconnectRx s = .next t ∧ exec .disconnectRx t = .next u ∧ exec .disconnectRx u = .next v ∧
      t.result = 0x00000109#32 ∧ u.result = 0x00000209#32 ∧ v = { s with hsState := .connected, result := 0x00000304#32 }

/-! ### The retransmit scheduler (42_scheduler.md) -/

/-- DATA_TX (R162 and R164; R161 and R163 but for the one case left to the next statement, an empty fragment while
`bytesInFlight` exceeds `peerWindow` and the table has room). -/
def Obligations.DataTxAdmitsSendsAndRegisters : Prop :=
  (∀ w : Word, w &&& 0x0000FEFF#32 = 0x00000020#32 → ∃ mf fid fo, decode w = .ok (.dataTx mf fid fo)) ∧
  ∀ (mf : BitVec 1) (fid fo : Byte) (s : State),
    (s.hsState ≠ .connected → exec (.dataTx mf fid fo) s = .next { s with result := 0x0000000A#32 }) ∧
    (s.hsState = .connected → 1440 < s.txLen.toNat → exec (.dataTx mf fid fo) s = .next { s with result := 0x0000000C#32 }) ∧
    (s.hsState = .connected → s.txLen.toNat ≤ 1440 →
      (0 < s.txLen.toNat ∧ s.peerWindow.toNat < s.bytesInFlight.toNat + s.txLen.toNat ∨
        Config.params.nSlots ≤ s.inflight.length) →
      exec (.dataTx mf fid fo) s = .next { s with result := 0x00000007#32 }) ∧
    (∀ d : List Byte, s.hsState = .connected → s.txLen.toNat ≤ 1440 →
      s.bytesInFlight.toNat + s.txLen.toNat ≤ s.peerWindow.toNat → s.inflight.length < Config.params.nSlots →
      d = s.lastHeaderTemplate.sid.toList
            ++ le32 ((s.lastHeaderTemplate.sf.extractLsb' 5 27).setWidth 32 <<< 5 ||| 0x04 ||| mf.setWidth 32)
            ++ le32 s.nextSeq ++ le32 s.lastPeerSeq
            ++ le16 (BitVec.ofNat 16 (Config.params.localWindow.toNat - s.bytesInFlight.toNat)) ++ [fid, fo]
            ++ readBytes s 0x800 s.txLen.toNat →
      exec (.dataTx mf fid fo) s = .next
        { s with
          tx := s.tx ++ [d]
          inflight := s.inflight ++
            [{ bytes := d, seq := s.nextSeq, len := s.txLen.toNat, lastSend := s.now, retries := 0 }]
          bytesInFlight := BitVec.ofNat 16 (s.bytesInFlight.toNat + s.txLen.toNat)
          nextSeq := s.nextSeq + 1
          result := 0x00000000#32 })

/-- DATA_TX with an empty payload while more bytes are in flight than the window admits and the table has room. The model's choice
(log entry 14): a free value says whether it is refused, as R163's pseudocode has it by the formula of R161, or sent and registered,
as R163's corner case has it. -/
def Obligations.EmptyFragmentOverShrunkWindow : Prop :=
  ∀ (mf : BitVec 1) (fid fo : Byte) (s : State) (d : List Byte), s.hsState = .connected → s.txLen = 0 →
    s.peerWindow.toNat < s.bytesInFlight.toNat → s.inflight.length < Config.params.nSlots →
    d = s.lastHeaderTemplate.sid.toList
          ++ le32 ((s.lastHeaderTemplate.sf.extractLsb' 5 27).setWidth 32 <<< 5 ||| 0x04 ||| mf.setWidth 32)
          ++ le32 s.nextSeq ++ le32 s.lastPeerSeq
          ++ le16 (BitVec.ofNat 16 (Config.params.localWindow.toNat - s.bytesInFlight.toNat)) ++ [fid, fo] →
    exec (.dataTx mf fid fo) s = .next
      (if Config.params.emptyOverWindow then
        { s with
          tx := s.tx ++ [d]
          inflight := s.inflight ++ [{ bytes := d, seq := s.nextSeq, len := 0, lastSend := s.now, retries := 0 }]
          nextSeq := s.nextSeq + 1
          result := 0x00000000#32 }
      else { s with result := 0x00000007#32 })

/-- ACK_RX (R166 to R168). -/
def Obligations.AckRxRetiresAndRefreshes : Prop :=
  decode 0x00000021#32 = .ok .ackRx ∧
  ∀ s : State,
    (s.hsState ≠ .connected → exec .ackRx s = .next { s with result := 0x0000000A#32 }) ∧
    (s.hsState = .connected →
      (RxTooLong s → exec .ackRx s = .next { s with result := 0x0000000C#32 }) ∧
      (s.rxNoDgram = true ∨ RxShort s → exec .ackRx s = .next { s with result := 0x00000001#32 }) ∧
      (RxDecodes s → (rxHeader s).sf.getLsbD 2 = false →
        exec .ackRx s = .next { withDecoded s with result := 0x00000008#32 }) ∧
      (RxDecodes s → (rxHeader s).sf.getLsbD 2 = true →
        exec .ackRx s = .next
          { withDecoded s with
            inflight := s.inflight.filter (fun e => decide ((rxHeader s).ack.toNat < e.seq.toNat))
            bytesInFlight := s.bytesInFlight -
              BitVec.ofNat 16 (((s.inflight.filter (fun e => decide (e.seq.toNat ≤ (rxHeader s).ack.toNat))).map Entry.len).sum)
            lastPeerSeq := (rxHeader s).seq
            lastHeaderTemplate := rxHeader s
            peerWindow := (rxHeader s).wnd
            result := BitVec.ofNat 32
              (256 * min (s.inflight.filter (fun e => decide (e.seq.toNat ≤ (rxHeader s).ack.toNat))).length 255) }))

/-- SWEEP (R169 to R173): the entries that expired and are at the ceiling go, those that expired below it are resent in table
order, the others stay as they are. -/
def Obligations.SweepResendsAndDrops : Prop :=
  decode 0x00000022#32 = .ok .sweep ∧
  ∀ (s : State) (late drop resend : Entry → Bool),
    (∀ e, late e = decide (Config.params.rtoTicks < (s.now - e.lastSend).toNat)) →
    (∀ e, drop e = (late e && decide (Config.params.retryCeiling ≤ e.retries.toNat))) →
    (∀ e, resend e = (late e && decide (e.retries.toNat < Config.params.retryCeiling))) →
    exec .sweep s = .next
      { s with
        inflight := (s.inflight.filter (fun e => !drop e)).map
          (fun e => if resend e then { e with retries := e.retries + 1, lastSend := s.now } else e)
        tx := s.tx ++ (s.inflight.filter resend).map Entry.bytes
        bytesInFlight := s.bytesInFlight - BitVec.ofNat 16 (((s.inflight.filter drop).map Entry.len).sum)
        result := BitVec.ofNat 32
          (256 * min (s.inflight.filter resend).length 255 + 65536 * min (s.inflight.filter drop).length 255) }

/-- A second sweep at the same `now` resends nothing and drops nothing (R170, R172, R173). -/
def Obligations.SecondSweepAtOnceDoesNothing : Prop :=
  ∀ s t : State, exec .sweep s = .next t → exec .sweep t = .next { t with result := 0x00000000#32 }

/-- Every datagram of a sweep is the stored bytes of a table entry, and no command ever changes an entry's bytes, `seq` or
length: an entry of the table after a command was there before with the same three, or is the datagram a DATA_TX has just sent
(R33, R174). -/
def Obligations.ResendsAreByteIdentical : Prop :=
  ∀ (i : Instr) (s t : State), exec i s = .next t →
    (i = .sweep → ∃ ds, t.tx = s.tx ++ ds ∧ ∀ d ∈ ds, ∃ e ∈ s.inflight, d = e.bytes) ∧
    (∀ e ∈ t.inflight,
      (∃ e' ∈ s.inflight, e.bytes = e'.bytes ∧ e.seq = e'.seq ∧ e.len = e'.len) ∨
      (∃ mf fid fo, i = .dataTx mf fid fo ∧ t.tx = s.tx ++ [e.bytes] ∧ e.seq = s.nextSeq ∧ e.retries = 0 ∧
        e.lastSend = s.now))

/-- The lifetime of the only entry of a table swept at every tick (R176), on a block with any parameters: it is resent every
`RTO_TICKS + 1` ticks, `RETRY_CEILING` times in all, and dropped at the next expiry. At the largest `RTO_TICKS` the elapsed time
never exceeds it (R257), hence the bound. -/
def Obligations.UnacknowledgedEntryLifetime : Prop :=
  ∀ (p : Params) (s : State) (e : Entry) (n : Nat), p.Ok → p.rtoTicks + 1 < 2 ^ 32 →
    s.inflight = [e] → e.lastSend = s.now → e.retries = 0 →
    (n < (p.retryCeiling + 1) * (p.rtoTicks + 1) →
      ((fun u => sweep p (tickPulse u))^[n] s).tx = s.tx ++ List.replicate (n / (p.rtoTicks + 1)) e.bytes ∧
      ∃ e', ((fun u => sweep p (tickPulse u))^[n] s).inflight = [e'] ∧ e'.bytes = e.bytes ∧
        e'.retries.toNat = n / (p.rtoTicks + 1)) ∧
    ((p.retryCeiling + 1) * (p.rtoTicks + 1) ≤ n →
      ((fun u => sweep p (tickPulse u))^[n] s).tx = s.tx ++ List.replicate p.retryCeiling e.bytes ∧
      ((fun u => sweep p (tickPulse u))^[n] s).inflight = [])

/-! ### Whole-machine rules -/

/-- `bytesInFlight` is the sum of the entries' lengths after every step (R29, R165). -/
def Obligations.StepKeepsBytesAccounted : Prop :=
  ∀ s t : State, BytesAccounted s → step s = .next t → BytesAccounted t

/-- Every step keeps the invariants of the table, the TX port, the attempt counter, RESULT and HDR_OUT_PLEN (R24, R29, R32 to R34,
R62, R118, R134, R221), and the canonical form of the buffers' memory, which is the model's own (log entry 3). -/
def Obligations.StepKeepsTheInvariant : Prop := ∀ s t : State, Inv s → step s = .next t → Inv t

/-- The reset state has them, the model's own form of the memory (log entry 3) among them. -/
def Obligations.ResetHasTheInvariant : Prop := Inv State.reset

/-- Every step keeps the canonical form of the buffers' memory, whatever else the state holds (the model's own form). -/
def Obligations.StepKeepsTheMemoryCanonical : Prop :=
  ∀ s t : State, Memory.wf s.mem = true → step s = .next t → Memory.wf t.mem = true

/-- Who writes `nextSeq` (R26): a command that sends a new packet takes it as the packet's `seq` and adds one; an accepted
handshake reply sets it to the reply's `seq` plus one; every other command leaves it and sends no new packet; the reset input
aside, no other step changes it. -/
def Obligations.NextSeqHasTheListedWriters : Prop :=
  (∀ (i : Instr) (s t : State), exec i s = .next t →
    ((i = .sweep ∨ t.tx = s.tx) ∧ ¬ ((i = .connectRx ∨ i = .reviveRx) ∧ t.result = 0x00000000#32) ∧ t.nextSeq = s.nextSeq) ∨
    ((i = .connectTx ∨ i = .disconnectTx ∨ i = .reviveTx ∨ ∃ mf fid fo, i = .dataTx mf fid fo) ∧
      t.nextSeq = s.nextSeq + 1 ∧ ∃ d, t.tx = s.tx ++ [d] ∧ rd32 d 20 = s.nextSeq) ∨
    ((i = .connectRx ∨ i = .reviveRx) ∧ t.result = 0x00000000#32 ∧ t.nextSeq = (rxHeader s).seq + 1)) ∧
  (∀ (s t : State) (ev : HostInput) (rest : List HostInput), s.input = ev :: rest → step s = .next t →
    (∀ w, ev ≠ .write 0 .word w) → ev ≠ .reset → t.nextSeq = s.nextSeq)

/-- Who writes the saved session (R31): a Disconnect that succeeds, always; besides it only the reset input. -/
def Obligations.SnapshotHasOneWriter : Prop :=
  ∀ s t : State, step s = .next t →
    (¬ (s.hsState = .disconnecting ∧ t.hsState = .disconnected) ∧
      t.savedHeaderForRevive = s.savedHeaderForRevive ∧ t.hasSavedSession = s.hasSavedSession) ∨
    (∃ rest, s.input = .write 0 .word 0x00000013#32 :: rest ∧ s.hsState = .disconnecting ∧ t.hsState = .disconnected ∧
      t.result = 0x00000000#32 ∧ t.savedHeaderForRevive = s.lastHeaderTemplate ∧ t.hasSavedSession = true) ∨
    (∃ rest, s.input = .reset :: rest ∧ t.savedHeaderForRevive = Header.zero ∧ t.hasSavedSession = false)

/-- Who writes `now` (R35): each tick adds one, the reset input clears it, nothing else writes it; NOW reads it. -/
def Obligations.NowHasTheListedWriters : Prop :=
  ∀ s t : State, step s = .next t →
    ((∃ rest, s.input = .tick :: rest) → t.now = s.now + 1) ∧
    ((∃ rest, s.input = .reset :: rest) → t.now = 0) ∧
    (¬ (∃ rest, s.input = .tick :: rest) → ¬ (∃ rest, s.input = .reset :: rest) → t.now = s.now) ∧
    busRead 0x20 t = t.now

/-- No command changes TX_PAYLOAD, RX_BUF or any operand register, and only PACK changes PKT_OUT (R72, R36): the frame of all
eleven commands over the buffers, the operand registers, `now` and the ports' inputs. -/
def Obligations.CommandsKeepOperandsAndBuffers : Prop :=
  ∀ (i : Instr) (s t : State), exec i s = .next t →
    (∀ a, i ≠ .pack ∨ a < 0x140 ∨ 0x160 ≤ a → readByte t a = readByte s a) ∧
    t.txLen = s.txLen ∧ t.rxNoDgram = s.rxNoDgram ∧ t.rxLen = s.rxLen ∧ t.hdrIn = s.hdrIn ∧ t.cmd = s.cmd ∧ t.now = s.now ∧
    t.busOut = s.busOut ∧ t.input = s.input ∧ t.drawEpoch = s.drawEpoch

/-- Errors are precise (R225): a command that finishes with NO_SESSION_TO_REVIVE, WINDOW_EXHAUSTED, BAD_STATE or LENGTH_ERROR
changes nothing but RESULT, and one that finishes with NOT_ACK nothing but RESULT, HDR_OUT and HDR_OUT_PLEN. -/
def Obligations.ErrorsArePrecise : Prop :=
  ∀ (i : Instr) (s t : State), exec i s = .next t →
    (t.result.extractLsb' 0 8 ∈ ([0x06, 0x07, 0x0A, 0x0C] : List Byte) → t = { s with result := t.result }) ∧
    (t.result.extractLsb' 0 8 = 0x08 → t = { s with result := t.result, hdrOut := t.hdrOut, hdrOutPlen := t.hdrOutPlen })

/-- Every command completes, and with one of the codes R221 lists for it; the counts are 0 but where R221 gives them. -/
def Obligations.EachCommandHasItsResultCodes : Prop :=
  ∀ (i : Instr) (s : State), ∃ t, exec i s = .next t ∧
    t.result.extractLsb' 24 8 = 0 ∧
    t.result.extractLsb' 0 8 ∈
      (match i with
        | .pack => [0x00]
        | .unpack => [0x00, 0x01, 0x0C]
        | .connectTx => [0x00, 0x0A]
        | .connectRx => [0x00, 0x01, 0x02, 0x03, 0x0A, 0x0C]
        | .disconnectTx => [0x00, 0x0A]
        | .disconnectRx => [0x00, 0x04, 0x09, 0x0A, 0x0C]
        | .reviveTx => [0x00, 0x06, 0x0A, 0x0C]
        | .reviveRx => [0x00, 0x01, 0x05, 0x0A, 0x0C]
        | .dataTx _ _ _ => [0x00, 0x07, 0x0A, 0x0C]
        | .ackRx => [0x00, 0x01, 0x08, 0x0A, 0x0C]
        | .sweep => [0x00] : List Byte) ∧
    (t.result.extractLsb' 16 8 ≠ 0 → i = .sweep) ∧
    (t.result.extractLsb' 8 8 ≠ 0 → i = .sweep ∨ i = .ackRx ∨ i = .disconnectRx)

/-- The payload of a received datagram affects nothing (93_implementation_defined.md §1): for a command other than PACK, DATA_TX
and REVIVE_TX, two states whose buffers agree on the 32 header bytes of RX_BUF have the same outcome. -/
def Obligations.ReceivedPayloadIsIgnored : Prop :=
  ∀ (i : Instr) (s t : State) (m : Memory),
    i ≠ .pack → i ≠ .reviveTx → (∀ mf fid fo, i ≠ .dataTx mf fid fo) →
    (∀ a, 0x1000 ≤ a → a < 0x1020 → readByte { s with mem := m } a = readByte s a) →
    exec i s = .next t → exec i { s with mem := m } = .next { t with mem := m }

/-! ### Host sequences (43_host_sequences.md) -/

/-- The fragment plan (R196, R197): the fragments are the message in order, `ceil(L / 1440)` of them, all full but possibly the
last, which is not empty; `fo` counts from 0 and MF is clear on the last alone. An empty message is one empty fragment. -/
def Obligations.FragmentPlanCutsTheMessage : Prop :=
  (∀ avail : Nat, fragmentPlan avail [] = [{ payload := [], fo := 0, mf := 0 }]) ∧
  ∀ (avail : Nat) (msg : List Byte), 0 < msg.length → msg.length ≤ 368640 →
    (fragmentPlan avail msg).length = (msg.length + 1439) / 1440 ∧
    ((fragmentPlan avail msg).map Fragment.payload).flatten = msg ∧
    (∀ (i : Nat) (hi : i < (fragmentPlan avail msg).length),
      ((fragmentPlan avail msg)[i]).fo.toNat = i ∧
      (((fragmentPlan avail msg)[i]).mf = 1 ↔ i + 1 < (fragmentPlan avail msg).length) ∧
      1 ≤ ((fragmentPlan avail msg)[i]).payload.length ∧
      ((fragmentPlan avail msg)[i]).payload.length ≤ 1440 ∧
      (i + 1 < (fragmentPlan avail msg).length → ((fragmentPlan avail msg)[i]).payload.length = 1440))

/-- `sendMessage` without a CONNECTED session, or with a message of more than 256 fragments, fails and issues no command
(R194): all that happens to the block is one read of STATUS, after the ticks that pass before it. -/
def Obligations.SendMessageNeedsASession : Prop :=
  ∀ (hp : HostParams) (msg : List Byte) (g g' : HostSys),
    g' = { g with
      gaps := g.gaps.tail
      block := { g.block with
        now := g.block.now + BitVec.ofNat 32 (g.gaps.headD 0)
        busOut := g.block.busOut ++ [statusWord g.block] } } →
    (g.block.hsState ≠ .connected → sendMessage hp msg g = (.failure .notActive, g')) ∧
    (g.block.hsState = .connected → 368640 < msg.length → sendMessage hp msg g = (.failure .tooLong, g'))

/-- After a transport error in a Disconnect (R192): the host notes it; its next Connect or data transfer first repeats
`rxnone ; cmd(DISCONNECT_RX)` until the code is not DISCONNECT_PENDING, from any block state, and from DISCONNECTING that leaves the
block CONNECTED with DISCONNECT_NOT_ACKNOWLEDGED, its table as it was and nothing emitted. That a Revive counts as a data transfer,
and that the recovery runs in a block that is no longer DISCONNECTING too, is the model's choice (log entry 8). -/
def Obligations.RecoveryEndsAPendingDisconnect : Prop :=
  (∀ (hp : HostParams) (g g' : HostSys), hostOp hp .disconnect g = (.failure .transport, g') → g'.recoverFirst = true) ∧
  (∀ (hp : HostParams) (g : HostSys) (msg : List Byte), g.recoverFirst = true →
    hostOp hp .connect g = hostConnect hp { recoverDisconnect g with recoverFirst := false } ∧
    hostOp hp (.revive msg) g = hostRevive hp msg { recoverDisconnect g with recoverFirst := false } ∧
    hostOp hp (.send msg) g = sendMessage hp msg { recoverDisconnect g with recoverFirst := false }) ∧
  (∀ g : HostSys,
    (recoverDisconnect g).block.result.extractLsb' 0 8 ≠ 0x09 ∧
    (g.block.hsState = .disconnecting →
      (recoverDisconnect g).block.hsState = .connected ∧ (recoverDisconnect g).block.result = 0x00000304#32 ∧
      (recoverDisconnect g).block.inflight = g.block.inflight ∧ (recoverDisconnect g).block.tx = g.block.tx))

/-- A host operation is never cut off (R205): where one has not returned, nothing more happens, whatever the caller asks for after
it; where all have returned, the next operations run on from there. -/
def Obligations.OperationsAreNotCutOff : Prop :=
  ∀ (hp : HostParams) (ops more : List HostOp) (g g' : HostSys) (rs : List HostResult), hostRun hp ops g = (rs, g') →
    ((∃ r ∈ rs, r.returned = false) → hostRun hp (ops ++ more) g = (rs, g')) ∧
    ((∀ r ∈ rs, r.returned = true) →
      rs.length = ops.length ∧ hostRun hp (ops ++ more) g = (rs ++ (hostRun hp more g').1, (hostRun hp more g').2))

/-- `connect()` succeeds only with the session CONNECTED, and a Connect that fails with a result code of its reply leaves
none (R132, R191). -/
def Obligations.HostConnectSuccessMeansConnected : Prop :=
  ∀ (hp : HostParams) (g g' : HostSys),
    (hostConnect hp g = (.success, g') → g'.block.hsState = .connected) ∧
    (∀ c, c ∈ ([0x01, 0x02, 0x03] : List Byte) → hostConnect hp g = (.failure (.code c), g') →
      g'.block.hsState = .disconnected)
end

