-- ==== Sys2Proof/Laws/Bytes.lean ====
section
/-! SUPPORT. Lemmas on byte lanes, little-endian integers and packed headers: lengths and lanes. -/

namespace Sys2Proof.Machine

open Sys2Proof

@[simp] theorem wordLanes_length (w : Word) : (wordLanes w).length = 4 := rfl
@[simp] theorem le32_length (w : Word) : (le32 w).length = 4 := rfl
@[simp] theorem le16_length (v : Half) : (le16 v).length = 2 := rfl

/-- A packed header is exactly 32 bytes (R110). -/
@[simp] theorem packHeader_length (h : Header) : (packHeader h).length = 32 := by
  simp [packHeader]

theorem unpackBytes_short {b : List Byte} (h : b.length < 32) : unpackBytes b = none := if_pos h

theorem unpackBytes_long {b : List Byte} (h : 32 ≤ b.length) : unpackBytes b = some (headerOfBytes b, b.drop 32) :=
  if_neg (Nat.not_lt.mpr h)

/-- The lanes of a word put together give the word back. -/
theorem laneWord_lanes (w : Word) : laneWord (byteLane w 0) (byteLane w 1) (byteLane w 2) (byteLane w 3) = w := by
  apply BitVec.eq_of_getLsbD_eq
  intro i hi
  simp only [laneWord, byteLane, BitVec.getLsbD_or, BitVec.getLsbD_shiftLeft, BitVec.getLsbD_setWidth,
    BitVec.getLsbD_extractLsb']
  by_cases h0 : i < 8
  · simp [h0, hi, show i < 16 by omega, show i < 24 by omega]
  · by_cases h1 : i < 16
    · simp [h0, h1, hi, show i < 24 by omega, show i - 8 < 8 by omega, show i - 8 < 32 by omega, show 8 + (i - 8) = i by omega]
    · by_cases h2 : i < 24
      · simp [h0, h1, h2, hi, show ¬ (i - 8 < 8) by omega, show i - 16 < 8 by omega, show i - 16 < 32 by omega,
          show 16 + (i - 16) = i by omega]
      · simp [h0, h1, h2, hi, show ¬ (i - 8 < 8) by omega, show ¬ (i - 16 < 8) by omega, show i - 24 < 8 by omega,
          show i - 24 < 32 by omega, show 24 + (i - 24) = i by omega]

/-- Lane `j` of a word put together from four bytes is byte `j` (R54). -/
theorem byteLane_laneWord (b0 b1 b2 b3 : Byte) :
    byteLane (laneWord b0 b1 b2 b3) 0 = b0 ∧ byteLane (laneWord b0 b1 b2 b3) 1 = b1 ∧
    byteLane (laneWord b0 b1 b2 b3) 2 = b2 ∧ byteLane (laneWord b0 b1 b2 b3) 3 = b3 := by
  refine ⟨?_, ?_, ?_, ?_⟩ <;>
  · apply BitVec.eq_of_getLsbD_eq
    intro i hi
    have hi' : i = 0 ∨ i = 1 ∨ i = 2 ∨ i = 3 ∨ i = 4 ∨ i = 5 ∨ i = 6 ∨ i = 7 := by omega
    rcases hi' with rfl | rfl | rfl | rfl | rfl | rfl | rfl | rfl <;> simp [laneWord, byteLane]

end Sys2Proof.Machine
end

