-- ==== Sys2Proof/Laws/Host.lean ====
section
/-! SUPPORT. What the host's block operations do to the block (R190), said once: pauses, register reads, commands. -/

namespace Sys2Proof.Machine

open Sys2Proof

/-- `n` ticks advance `now` by `n` and do nothing else (R175). -/
theorem hostLine_tick (n : Nat) (h : HostSys) :
    hostLine (.tick n) h = { h with block := { h.block with now := h.block.now + BitVec.ofNat 32 n } } := by
  induction n generalizing h with
  | zero => simp [hostLine, expandLine]
  | succ n ih =>
    have hs : hostLine (.tick (n + 1)) h = hostLine (.tick n) (hostAct h .tick) := by
      simp [hostLine, expandLine, List.replicate_succ]
    rw [hs, ih]
    simp [hostAct, serve, tickPulse, BitVec.add_assoc, BitVec.ofNat_add, BitVec.add_comm (1#32)]

/-- A pause lets the next gap's ticks pass. -/
theorem hostPause_eq (h : HostSys) :
    hostPause h = { h with
      gaps := h.gaps.tail
      block := { h.block with now := h.block.now + BitVec.ofNat 32 (h.gaps.headD 0) } } := by
  rw [hostPause, hostLine_tick]

/-- Every register of the map begins at a word-aligned offset of the window (R51). -/
theorem regOffset_ok (r : RegName) : regOffset r < 0x2000 ∧ regOffset r % 4 = 0 := by
  cases r <;> decide

/-- A bus read of a register returns its word and changes nothing (R60). -/
theorem hostAct_read (r : RegName) (h : HostSys) :
    hostAct h (readLine (.named r 0)) =
      { h with block := { h.block with busOut := h.block.busOut ++ [busRead (regOffset r) h.block] } } := by
  have ho := regOffset_ok r
  have e : (BitVec.ofNat 13 (regOffset r)).toNat = regOffset r := by
    rw [BitVec.toNat_ofNat]; omega
  simp [hostAct, readLine, targetOffset, serve, accessRefusal, e, ho.2]

/-- A command the decoder reads back runs as `exec` on the block with its word in CMD. -/
theorem hostLine_command {i : Instr} {h : HostSys} {t : State} (hd : decode (encode i) = .ok i)
    (ht : exec i { h.block with cmd := encode i } = .next t) : hostLine (.command i) h = { h with block := t } := by
  have hm : mappedWord 0 = some .cmd := rfl
  simp [hostLine, expandLine, hostAct, writeLine, targetOffset, regOffset, serve, accessRefusal, busWrite, hm, runCommand, hd,
    writeMapped, ht]

/-- `cmd(X)`: the pause, the command, the read of RESULT. -/
theorem hostCmd_spec {i : Instr} {h : HostSys} {t : State} (hd : decode (encode i) = .ok i)
    (ht : exec i { (hostPause h).block with cmd := encode i } = .next t) :
    (hostCmd i h).code = t.result.extractLsb' 0 8 ∧
    (hostCmd i h).sys.block = { t with busOut := t.busOut ++ [t.result] } := by
  have hr : ∀ s : State, busRead (regOffset .RESULT) s = s.result := fun _ => rfl
  simp only [hostCmd, hostLine_command hd ht, hostAct_read, hr]
  exact ⟨trivial, trivial⟩

end Sys2Proof.Machine
end

