-- ==== Sys2Proof/Laws/Memory.lean ====
section
/-! SUPPORT. The laws of the byte buffers: a read after a write, and the canonical form of the memory. -/

namespace Sys2Proof.Machine

open Sys2Proof

/-- A write, then a read: the written byte at its address, the old byte elsewhere. -/
theorem memLookup_insert (a b : Nat) (v : Byte) (m : Memory) :
    memLookup b (memInsert a v m) = if a = b then some v else memLookup b m := by
  induction m with
  | nil => simp [memInsert, memLookup]
  | cons c rest ih =>
    obtain ⟨k, w⟩ := c
    simp only [memInsert]
    split
    · simp [memLookup]
    · split
      · subst k; by_cases h : a = b <;> simp [memLookup, h]
      · by_cases hb : k = b
        · simp [memLookup, hb]; intro h; omega
        · simp [memLookup, hb, ih]

/-- Reading after a write of consecutive bytes (R54). -/
theorem memLookup_insertList (vs : List Byte) (a b : Nat) (m : Memory) :
    memLookup b (memInsertList a vs m) = if a ≤ b ∧ b < a + vs.length then vs[b - a]? else memLookup b m := by
  induction vs generalizing a m with
  | nil => rw [if_neg (by simp only [List.length_nil]; omega)]; rfl
  | cons v vs ih =>
    rw [memInsertList, ih, memLookup_insert]
    by_cases h : a = b
    · subst h; simp
    · simp only [List.length_cons, h, if_false]
      by_cases h1 : a + 1 ≤ b ∧ b < a + 1 + vs.length
      · rw [if_pos h1, if_pos (by omega), show b - a = (b - (a + 1)) + 1 by omega, List.getElem?_cons_succ]
      · rw [if_neg h1, if_neg (by omega)]

/-- Every address of a memory lies at or above a bound. -/
theorem rising_cons_iff (c : Host.Cell) (m : Memory) :
    Memory.rising (c :: m) = true ↔ (∀ d ∈ m.head?, c.1 < d.1) ∧ Memory.rising m = true := by
  cases m with
  | nil => simp [Memory.rising]
  | cons d rest => simp [Memory.rising]

theorem memInsert_head (a : Nat) (v : Byte) (m : Memory) :
    ∀ d ∈ (memInsert a v m).head?, d.1 = a ∨ ∃ c ∈ m.head?, d.1 = c.1 := by
  cases m with
  | nil => simp [memInsert]
  | cons c rest =>
    simp only [memInsert]
    split
    · simp
    · split <;> simp

theorem memInsert_rising (a : Nat) (v : Byte) (m : Memory) (h : Memory.rising m = true) :
    Memory.rising (memInsert a v m) = true := by
  induction m with
  | nil => rfl
  | cons c rest ih =>
    obtain ⟨k, w⟩ := c
    have hc := (rising_cons_iff _ _).mp h
    simp only [memInsert]
    split
    · next hlt => exact (rising_cons_iff _ _).mpr ⟨by simpa using hlt, h⟩
    · split
      · next he => subst he; exact (rising_cons_iff _ _).mpr hc
      · refine (rising_cons_iff _ _).mpr ⟨fun d hd => ?_, ih hc.2⟩
        rcases memInsert_head a v rest d hd with h1 | ⟨c, hc', h1⟩
        · rw [h1]; show k < a; omega
        · rw [h1]; exact hc.1 c hc'

theorem memInsert_mapped (a : Nat) (v : Byte) (m : Memory) (ha : Memory.mapped a = true)
    (h : m.all (fun c => Memory.mapped c.1) = true) : (memInsert a v m).all (fun c => Memory.mapped c.1) = true := by
  induction m with
  | nil => simp [memInsert, ha]
  | cons c rest ih =>
    obtain ⟨k, w⟩ := c
    simp only [List.all_cons, Bool.and_eq_true] at h
    simp only [memInsert]
    split
    · simp [ha, h.1, h.2]
    · split
      · simp [ha, h.2]
      · simp [h.1, ih h.2]

/-- A write inside a buffer keeps the canonical form. -/
theorem memInsert_wf (a : Nat) (v : Byte) (m : Memory) (ha : Memory.mapped a = true) (h : Memory.wf m = true) :
    Memory.wf (memInsert a v m) = true := by
  simp only [Memory.wf, Bool.and_eq_true] at h ⊢
  exact ⟨memInsert_rising a v m h.1, memInsert_mapped a v m ha h.2⟩

/-- So does a write of consecutive bytes. -/
theorem memInsertList_wf (vs : List Byte) (a : Nat) (m : Memory) (ha : ∀ k < vs.length, Memory.mapped (a + k) = true)
    (h : Memory.wf m = true) : Memory.wf (memInsertList a vs m) = true := by
  induction vs generalizing a m with
  | nil => exact h
  | cons v vs ih =>
    refine ih (a + 1) _ (fun k hk => ?_) (memInsert_wf a v m (by simpa using ha 0 (by simp)) h)
    have := ha (k + 1) (by simpa using hk)
    rwa [show a + 1 + k = a + (k + 1) by omega]

/-- The reset memory has the canonical form. -/
theorem reset_mem_wf : Memory.wf State.reset.mem = true := rfl

@[simp] theorem readBytes_length (s : State) (a n : Nat) : (readBytes s a n).length = n := by simp [readBytes]

/-- A byte read looks at nothing but the memory and the reset count. -/
theorem readByte_congr {s t : State} (hm : t.mem = s.mem) (he : t.drawEpoch = s.drawEpoch) (a : Nat) :
    readByte t a = readByte s a := by rw [readByte, readByte, hm, he]

theorem readBytes_congr {s t : State} (hm : t.mem = s.mem) (he : t.drawEpoch = s.drawEpoch) (a n : Nat) :
    readBytes t a n = readBytes s a n := by simp only [readBytes, readByte_congr hm he]

end Sys2Proof.Machine
end

