-- ==== Sys2Proof/Laws/Operands.lean ====
section
/-! SUPPORT. What `rxDecode` can answer (R118), said once in the terms of Safety.lean. -/

namespace Sys2Proof.Machine

open Sys2Proof

@[simp] theorem rxBytes_length (s : State) : (rxBytes s).length = s.rxLen.toNat := by simp [rxBytes]

theorem rxResult_noDgram {s : State} (h : s.rxNoDgram = true) : rxResult s = .noDgram := by simp [rxResult, h]

theorem rxResult_tooLong {s : State} (h : RxTooLong s) : rxResult s = .lenErr := by
  simp [rxResult, h.1, maxDgram, h.2]

theorem rxResult_short {s : State} (h : RxShort s) : rxResult s = .malformed := by
  have h1 : ¬ (s.rxLen.toNat > maxDgram) := by have := h.2; unfold maxDgram; omega
  simp [rxResult, h.1, h1, unpackBytes_short (b := rxBytes s) (by simpa using h.2)]

theorem rxResult_decodes {s : State} (h : RxDecodes s) : rxResult s = .ok (rxHeader s) ((rxBytes s).drop 32) := by
  have h1 : ¬ (s.rxLen.toNat > maxDgram) := by have := h.2.2; unfold maxDgram; omega
  simp only [rxResult, h.1, h1, unpackBytes_long (b := rxBytes s) (by simpa using h.2.1)]
  rfl

/-- The four cases of RX_LEN exclude each other and leave none out. -/
theorem rx_cases (s : State) : s.rxNoDgram = true ∨ RxTooLong s ∨ RxShort s ∨ RxDecodes s := by
  unfold RxTooLong RxShort RxDecodes
  cases s.rxNoDgram
  · simp; omega
  · simp

/-- HDR_OUT and HDR_OUT_PLEN are written exactly when a header decoded (D46). -/
theorem rxDecoded_decodes {s : State} (h : RxDecodes s) : rxDecoded s = withDecoded s := by
  simp [rxDecoded, rxResult_decodes h, withDecoded, hdrBytes]

theorem hasAck_eq (h : Header) : hasAck h = h.sf.getLsbD 2 := by simp [hasAck, headerFlags]

theorem hasAckSetup_eq (h : Header) : hasAckSetup h = h.sf.getLsbD 1 := by simp [hasAckSetup, headerFlags]

theorem txTooLong_iff (s : State) : txTooLong s = true ↔ 1440 < s.txLen.toNat := by
  simp [txTooLong, txLength, maxPayload]

/-! ### The fields of `withDecoded` -/

@[simp] theorem withDecoded_hsState (s : State) : (withDecoded s).hsState = s.hsState := by simp only [withDecoded]
@[simp] theorem withDecoded_pendingKind (s : State) : (withDecoded s).pendingKind = s.pendingKind := by simp only [withDecoded]
@[simp] theorem withDecoded_pendingSeq (s : State) : (withDecoded s).pendingSeq = s.pendingSeq := by simp only [withDecoded]
@[simp] theorem withDecoded_discAttempts (s : State) : (withDecoded s).discAttempts = s.discAttempts := by simp only [withDecoded]
@[simp] theorem withDecoded_nextSeq (s : State) : (withDecoded s).nextSeq = s.nextSeq := by simp only [withDecoded]
@[simp] theorem withDecoded_lastPeerSeq (s : State) : (withDecoded s).lastPeerSeq = s.lastPeerSeq := by simp only [withDecoded]
@[simp] theorem withDecoded_peerWindow (s : State) : (withDecoded s).peerWindow = s.peerWindow := by simp only [withDecoded]
@[simp] theorem withDecoded_bytesInFlight (s : State) : (withDecoded s).bytesInFlight = s.bytesInFlight := by simp only [withDecoded]
@[simp] theorem withDecoded_lastHeaderTemplate (s : State) : (withDecoded s).lastHeaderTemplate = s.lastHeaderTemplate := by simp only [withDecoded]
@[simp] theorem withDecoded_savedHeaderForRevive (s : State) : (withDecoded s).savedHeaderForRevive = s.savedHeaderForRevive := by simp only [withDecoded]
@[simp] theorem withDecoded_hasSavedSession (s : State) : (withDecoded s).hasSavedSession = s.hasSavedSession := by simp only [withDecoded]
@[simp] theorem withDecoded_inflight (s : State) : (withDecoded s).inflight = s.inflight := by simp only [withDecoded]
@[simp] theorem withDecoded_now (s : State) : (withDecoded s).now = s.now := by simp only [withDecoded]
@[simp] theorem withDecoded_cmd (s : State) : (withDecoded s).cmd = s.cmd := by simp only [withDecoded]
@[simp] theorem withDecoded_result (s : State) : (withDecoded s).result = s.result := by simp only [withDecoded]
@[simp] theorem withDecoded_txLen (s : State) : (withDecoded s).txLen = s.txLen := by simp only [withDecoded]
@[simp] theorem withDecoded_rxNoDgram (s : State) : (withDecoded s).rxNoDgram = s.rxNoDgram := by simp only [withDecoded]
@[simp] theorem withDecoded_rxLen (s : State) : (withDecoded s).rxLen = s.rxLen := by simp only [withDecoded]
@[simp] theorem withDecoded_hdrIn (s : State) : (withDecoded s).hdrIn = s.hdrIn := by simp only [withDecoded]
@[simp] theorem withDecoded_hdrOut (s : State) : (withDecoded s).hdrOut = rxHeader s := by simp only [withDecoded]
@[simp] theorem withDecoded_hdrOutPlen (s : State) : (withDecoded s).hdrOutPlen = BitVec.ofNat 11 (s.rxLen.toNat - 32) := by simp only [withDecoded]
@[simp] theorem withDecoded_mem (s : State) : (withDecoded s).mem = s.mem := by simp only [withDecoded]
@[simp] theorem withDecoded_tx (s : State) : (withDecoded s).tx = s.tx := by simp only [withDecoded]
@[simp] theorem withDecoded_busOut (s : State) : (withDecoded s).busOut = s.busOut := by simp only [withDecoded]
@[simp] theorem withDecoded_input (s : State) : (withDecoded s).input = s.input := by simp only [withDecoded]
@[simp] theorem withDecoded_drawEpoch (s : State) : (withDecoded s).drawEpoch = s.drawEpoch := by simp only [withDecoded]

end Sys2Proof.Machine
end

