-- ==== Sys2Proof/Laws/PerInstr.lean ====
section
/-! SUPPORT. Statements made per command: the reserved bits of its word are 0 (R87). -/

namespace Sys2Proof.Laws.ReservedBitsZero

open Sys2Proof

/-- Bits [15:9] of the command word are 0 (R87). -/
def Statement (i : Instr) : Prop := (encode i).extractLsb' 9 7 = 0

theorem pack : Statement .pack := rfl
theorem unpack : Statement .unpack := rfl
theorem connectTx : Statement .connectTx := rfl
theorem connectRx : Statement .connectRx := rfl
theorem disconnectTx : Statement .disconnectTx := rfl
theorem disconnectRx : Statement .disconnectRx := rfl
theorem reviveTx : Statement .reviveTx := rfl
theorem reviveRx : Statement .reviveRx := rfl
theorem dataTx (mf : BitVec 1) (fid fo : Byte) : Statement (.dataTx mf fid fo) := by
  apply BitVec.eq_of_getLsbD_eq
  intro k hk
  have hk' : k = 0 ∨ k = 1 ∨ k = 2 ∨ k = 3 ∨ k = 4 ∨ k = 5 ∨ k = 6 := by omega
  rcases hk' with rfl | rfl | rfl | rfl | rfl | rfl | rfl <;> simp [encode]
theorem ackRx : Statement .ackRx := rfl
theorem sweep : Statement .sweep := rfl

end Sys2Proof.Laws.ReservedBitsZero
end

