-- ==== Sys2Proof/Laws/Scheduler.lean ====
section
/-! SUPPORT. What the scheduler's shared operations do (R161, R167, R169), said once. -/

namespace Sys2Proof.Machine

open Sys2Proof

theorem admits_iff (p : Params) (s : State) (len : Nat) :
    admits p s len = true ↔ s.bytesInFlight.toNat + len ≤ s.peerWindow.toNat ∧ s.inflight.length < p.nSlots := by
  simp [admits]

/-- Every fragment DATA_TX admits has room in the table, and fits the window unless it is empty. -/
theorem dataAdmits_iff (p : Params) (s : State) (len : Nat) :
    dataAdmits p s len = true ↔
      (s.bytesInFlight.toNat + len ≤ s.peerWindow.toNat ∨ len = 0 ∧ p.emptyOverWindow = true) ∧
        s.inflight.length < p.nSlots := by
  simp only [dataAdmits, Bool.or_eq_true, admits_iff, Bool.and_eq_true, decide_eq_true_eq]
  tauto

/-- The two tests agree on every fragment that is not empty, and wherever the window holds the bytes in flight. -/
theorem dataAdmits_eq_admits (p : Params) (s : State) (len : Nat)
    (h : 0 < len ∨ s.bytesInFlight.toNat ≤ s.peerWindow.toNat) : dataAdmits p s len = admits p s len := by
  rw [Bool.eq_iff_iff, dataAdmits_iff, admits_iff]
  constructor
  · rintro ⟨hw | ⟨rfl, -⟩, hn⟩
    · exact ⟨hw, hn⟩
    · exact ⟨by omega, hn⟩
  · exact fun ⟨hw, hn⟩ => ⟨.inl hw, hn⟩

/-- An admitted fragment never makes the 16-bit `bytesInFlight` wrap (R165). -/
theorem dataAdmits_no_wrap {p : Params} {s : State} {len : Nat} (h : dataAdmits p s len = true) :
    s.bytesInFlight.toNat + len < 65536 := by
  have hp := s.peerWindow.isLt
  have hb := s.bytesInFlight.isLt
  have := ((dataAdmits_iff p s len).mp h).1
  omega

/-- An entry the sweep drops (R171). -/
def sweepDrops (p : Params) (now : Word) (e : Entry) : Bool := expired p now e && atCeiling p e

/-- An entry the sweep resends (R172). -/
def sweepResends (p : Params) (now : Word) (e : Entry) : Bool := expired p now e && !atCeiling p e

/-- The table a sweep leaves: what it does not drop, in order, the resent entries updated. -/
theorem sweepTable_table (p : Params) (now : Word) (es : List Entry) :
    (sweepTable p now es).table
      = (es.filter (fun e => !sweepDrops p now e)).map (fun e => if sweepResends p now e then resent now e else e) := by
  induction es with
  | nil => rfl
  | cons e rest ih =>
    have hd : sweepDrops p now e = (expired p now e && atCeiling p e) := rfl
    have hr : sweepResends p now e = (expired p now e && !atCeiling p e) := rfl
    by_cases h1 : expired p now e <;> by_cases h2 : atCeiling p e <;> simp [sweepTable, h1, h2, hd, hr, ih]

/-- The datagrams a sweep emits, in table order. -/
theorem sweepTable_sent (p : Params) (now : Word) (es : List Entry) :
    (sweepTable p now es).sent = (es.filter (sweepResends p now)).map Entry.bytes := by
  induction es with
  | nil => rfl
  | cons e rest ih =>
    have hr : sweepResends p now e = (expired p now e && !atCeiling p e) := rfl
    by_cases h1 : expired p now e <;> by_cases h2 : atCeiling p e <;> simp [sweepTable, h1, h2, hr, ih]

/-- The lengths a sweep drops, in table order. -/
theorem sweepTable_droppedLens (p : Params) (now : Word) (es : List Entry) :
    (sweepTable p now es).droppedLens = (es.filter (sweepDrops p now)).map Entry.len := by
  induction es with
  | nil => rfl
  | cons e rest ih =>
    have hd : sweepDrops p now e = (expired p now e && atCeiling p e) := rfl
    by_cases h1 : expired p now e <;> by_cases h2 : atCeiling p e <;> simp [sweepTable, h1, h2, hd, ih]

/-- Keeping and removing split the sum of the lengths. -/
theorem sumLen_filter (f : Entry → Bool) (es : List Entry) :
    sumLen (es.filter f) + sumLen (es.filter (fun e => !f e)) = sumLen es := by
  induction es with
  | nil => rfl
  | cons e rest ih =>
    simp only [sumLen] at ih ⊢
    by_cases h : f e <;> simp [h] <;> omega

end Sys2Proof.Machine
end

