-- ==== Sys2Proof/Laws/State.lean ====
section
/-! SUPPORT. What each named update does to each field of State, so that no later proof unfolds a record update. -/

namespace Sys2Proof.Machine

open Sys2Proof

@[simp] theorem finishCode_eq (code : ResultCode) (s : State) : finishCode code s = finish code 0 0 s := rfl

/-! ### `finish` -/

@[simp] theorem finish_hsState (code : ResultCode) (a b : Nat) (s : State) : (finish code a b s).hsState = s.hsState := rfl
@[simp] theorem finish_pendingKind (code : ResultCode) (a b : Nat) (s : State) : (finish code a b s).pendingKind = s.pendingKind := rfl
@[simp] theorem finish_pendingSeq (code : ResultCode) (a b : Nat) (s : State) : (finish code a b s).pendingSeq = s.pendingSeq := rfl
@[simp] theorem finish_discAttempts (code : ResultCode) (a b : Nat) (s : State) : (finish code a b s).discAttempts = s.discAttempts := rfl
@[simp] theorem finish_nextSeq (code : ResultCode) (a b : Nat) (s : State) : (finish code a b s).nextSeq = s.nextSeq := rfl
@[simp] theorem finish_lastPeerSeq (code : ResultCode) (a b : Nat) (s : State) : (finish code a b s).lastPeerSeq = s.lastPeerSeq := rfl
@[simp] theorem finish_peerWindow (code : ResultCode) (a b : Nat) (s : State) : (finish code a b s).peerWindow = s.peerWindow := rfl
@[simp] theorem finish_bytesInFlight (code : ResultCode) (a b : Nat) (s : State) : (finish code a b s).bytesInFlight = s.bytesInFlight := rfl
@[simp] theorem finish_lastHeaderTemplate (code : ResultCode) (a b : Nat) (s : State) : (finish code a b s).lastHeaderTemplate = s.lastHeaderTemplate := rfl
@[simp] theorem finish_savedHeaderForRevive (code : ResultCode) (a b : Nat) (s : State) : (finish code a b s).savedHeaderForRevive = s.savedHeaderForRevive := rfl
@[simp] theorem finish_hasSavedSession (code : ResultCode) (a b : Nat) (s : State) : (finish code a b s).hasSavedSession = s.hasSavedSession := rfl
@[simp] theorem finish_inflight (code : ResultCode) (a b : Nat) (s : State) : (finish code a b s).inflight = s.inflight := rfl
@[simp] theorem finish_now (code : ResultCode) (a b : Nat) (s : State) : (finish code a b s).now = s.now := rfl
@[simp] theorem finish_cmd (code : ResultCode) (a b : Nat) (s : State) : (finish code a b s).cmd = s.cmd := rfl
@[simp] theorem finish_result (code : ResultCode) (a b : Nat) (s : State) : (finish code a b s).result = resultWord code a b := rfl
@[simp] theorem finish_txLen (code : ResultCode) (a b : Nat) (s : State) : (finish code a b s).txLen = s.txLen := rfl
@[simp] theorem finish_rxNoDgram (code : ResultCode) (a b : Nat) (s : State) : (finish code a b s).rxNoDgram = s.rxNoDgram := rfl
@[simp] theorem finish_rxLen (code : ResultCode) (a b : Nat) (s : State) : (finish code a b s).rxLen = s.rxLen := rfl
@[simp] theorem finish_hdrIn (code : ResultCode) (a b : Nat) (s : State) : (finish code a b s).hdrIn = s.hdrIn := rfl
@[simp] theorem finish_hdrOut (code : ResultCode) (a b : Nat) (s : State) : (finish code a b s).hdrOut = s.hdrOut := rfl
@[simp] theorem finish_hdrOutPlen (code : ResultCode) (a b : Nat) (s : State) : (finish code a b s).hdrOutPlen = s.hdrOutPlen := rfl
@[simp] theorem finish_mem (code : ResultCode) (a b : Nat) (s : State) : (finish code a b s).mem = s.mem := rfl
@[simp] theorem finish_tx (code : ResultCode) (a b : Nat) (s : State) : (finish code a b s).tx = s.tx := rfl
@[simp] theorem finish_busOut (code : ResultCode) (a b : Nat) (s : State) : (finish code a b s).busOut = s.busOut := rfl
@[simp] theorem finish_input (code : ResultCode) (a b : Nat) (s : State) : (finish code a b s).input = s.input := rfl
@[simp] theorem finish_drawEpoch (code : ResultCode) (a b : Nat) (s : State) : (finish code a b s).drawEpoch = s.drawEpoch := rfl

/-! ### `emit` -/

@[simp] theorem emit_hsState (d : List Byte) (s : State) : (emit d s).hsState = s.hsState := rfl
@[simp] theorem emit_pendingKind (d : List Byte) (s : State) : (emit d s).pendingKind = s.pendingKind := rfl
@[simp] theorem emit_pendingSeq (d : List Byte) (s : State) : (emit d s).pendingSeq = s.pendingSeq := rfl
@[simp] theorem emit_discAttempts (d : List Byte) (s : State) : (emit d s).discAttempts = s.discAttempts := rfl
@[simp] theorem emit_nextSeq (d : List Byte) (s : State) : (emit d s).nextSeq = s.nextSeq := rfl
@[simp] theorem emit_lastPeerSeq (d : List Byte) (s : State) : (emit d s).lastPeerSeq = s.lastPeerSeq := rfl
@[simp] theorem emit_peerWindow (d : List Byte) (s : State) : (emit d s).peerWindow = s.peerWindow := rfl
@[simp] theorem emit_bytesInFlight (d : List Byte) (s : State) : (emit d s).bytesInFlight = s.bytesInFlight := rfl
@[simp] theorem emit_lastHeaderTemplate (d : List Byte) (s : State) : (emit d s).lastHeaderTemplate = s.lastHeaderTemplate := rfl
@[simp] theorem emit_savedHeaderForRevive (d : List Byte) (s : State) : (emit d s).savedHeaderForRevive = s.savedHeaderForRevive := rfl
@[simp] theorem emit_hasSavedSession (d : List Byte) (s : State) : (emit d s).hasSavedSession = s.hasSavedSession := rfl
@[simp] theorem emit_inflight (d : List Byte) (s : State) : (emit d s).inflight = s.inflight := rfl
@[simp] theorem emit_now (d : List Byte) (s : State) : (emit d s).now = s.now := rfl
@[simp] theorem emit_cmd (d : List Byte) (s : State) : (emit d s).cmd = s.cmd := rfl
@[simp] theorem emit_result (d : List Byte) (s : State) : (emit d s).result = s.result := rfl
@[simp] theorem emit_txLen (d : List Byte) (s : State) : (emit d s).txLen = s.txLen := rfl
@[simp] theorem emit_rxNoDgram (d : List Byte) (s : State) : (emit d s).rxNoDgram = s.rxNoDgram := rfl
@[simp] theorem emit_rxLen (d : List Byte) (s : State) : (emit d s).rxLen = s.rxLen := rfl
@[simp] theorem emit_hdrIn (d : List Byte) (s : State) : (emit d s).hdrIn = s.hdrIn := rfl
@[simp] theorem emit_hdrOut (d : List Byte) (s : State) : (emit d s).hdrOut = s.hdrOut := rfl
@[simp] theorem emit_hdrOutPlen (d : List Byte) (s : State) : (emit d s).hdrOutPlen = s.hdrOutPlen := rfl
@[simp] theorem emit_mem (d : List Byte) (s : State) : (emit d s).mem = s.mem := rfl
@[simp] theorem emit_tx (d : List Byte) (s : State) : (emit d s).tx = s.tx ++ [d] := rfl
@[simp] theorem emit_busOut (d : List Byte) (s : State) : (emit d s).busOut = s.busOut := rfl
@[simp] theorem emit_input (d : List Byte) (s : State) : (emit d s).input = s.input := rfl
@[simp] theorem emit_drawEpoch (d : List Byte) (s : State) : (emit d s).drawEpoch = s.drawEpoch := rfl

/-! ### `tickPulse` -/

@[simp] theorem tickPulse_hsState (s : State) : (tickPulse s).hsState = s.hsState := rfl
@[simp] theorem tickPulse_pendingKind (s : State) : (tickPulse s).pendingKind = s.pendingKind := rfl
@[simp] theorem tickPulse_pendingSeq (s : State) : (tickPulse s).pendingSeq = s.pendingSeq := rfl
@[simp] theorem tickPulse_discAttempts (s : State) : (tickPulse s).discAttempts = s.discAttempts := rfl
@[simp] theorem tickPulse_nextSeq (s : State) : (tickPulse s).nextSeq = s.nextSeq := rfl
@[simp] theorem tickPulse_lastPeerSeq (s : State) : (tickPulse s).lastPeerSeq = s.lastPeerSeq := rfl
@[simp] theorem tickPulse_peerWindow (s : State) : (tickPulse s).peerWindow = s.peerWindow := rfl
@[simp] theorem tickPulse_bytesInFlight (s : State) : (tickPulse s).bytesInFlight = s.bytesInFlight := rfl
@[simp] theorem tickPulse_lastHeaderTemplate (s : State) : (tickPulse s).lastHeaderTemplate = s.lastHeaderTemplate := rfl
@[simp] theorem tickPulse_savedHeaderForRevive (s : State) : (tickPulse s).savedHeaderForRevive = s.savedHeaderForRevive := rfl
@[simp] theorem tickPulse_hasSavedSession (s : State) : (tickPulse s).hasSavedSession = s.hasSavedSession := rfl
@[simp] theorem tickPulse_inflight (s : State) : (tickPulse s).inflight = s.inflight := rfl
@[simp] theorem tickPulse_now (s : State) : (tickPulse s).now = s.now + 1 := rfl
@[simp] theorem tickPulse_cmd (s : State) : (tickPulse s).cmd = s.cmd := rfl
@[simp] theorem tickPulse_result (s : State) : (tickPulse s).result = s.result := rfl
@[simp] theorem tickPulse_txLen (s : State) : (tickPulse s).txLen = s.txLen := rfl
@[simp] theorem tickPulse_rxNoDgram (s : State) : (tickPulse s).rxNoDgram = s.rxNoDgram := rfl
@[simp] theorem tickPulse_rxLen (s : State) : (tickPulse s).rxLen = s.rxLen := rfl
@[simp] theorem tickPulse_hdrIn (s : State) : (tickPulse s).hdrIn = s.hdrIn := rfl
@[simp] theorem tickPulse_hdrOut (s : State) : (tickPulse s).hdrOut = s.hdrOut := rfl
@[simp] theorem tickPulse_hdrOutPlen (s : State) : (tickPulse s).hdrOutPlen = s.hdrOutPlen := rfl
@[simp] theorem tickPulse_mem (s : State) : (tickPulse s).mem = s.mem := rfl
@[simp] theorem tickPulse_tx (s : State) : (tickPulse s).tx = s.tx := rfl
@[simp] theorem tickPulse_busOut (s : State) : (tickPulse s).busOut = s.busOut := rfl
@[simp] theorem tickPulse_input (s : State) : (tickPulse s).input = s.input := rfl
@[simp] theorem tickPulse_drawEpoch (s : State) : (tickPulse s).drawEpoch = s.drawEpoch := rfl

/-! ### `acceptReply` -/

@[simp] theorem acceptReply_hsState (h : Header) (s : State) : (acceptReply h s).hsState = .connected := rfl
@[simp] theorem acceptReply_pendingKind (h : Header) (s : State) : (acceptReply h s).pendingKind = s.pendingKind := rfl
@[simp] theorem acceptReply_pendingSeq (h : Header) (s : State) : (acceptReply h s).pendingSeq = s.pendingSeq := rfl
@[simp] theorem acceptReply_discAttempts (h : Header) (s : State) : (acceptReply h s).discAttempts = s.discAttempts := rfl
@[simp] theorem acceptReply_nextSeq (h : Header) (s : State) : (acceptReply h s).nextSeq = h.seq + 1 := rfl
@[simp] theorem acceptReply_lastPeerSeq (h : Header) (s : State) : (acceptReply h s).lastPeerSeq = h.seq := rfl
@[simp] theorem acceptReply_peerWindow (h : Header) (s : State) : (acceptReply h s).peerWindow = h.wnd := rfl
@[simp] theorem acceptReply_bytesInFlight (h : Header) (s : State) : (acceptReply h s).bytesInFlight = 0 := rfl
@[simp] theorem acceptReply_lastHeaderTemplate (h : Header) (s : State) : (acceptReply h s).lastHeaderTemplate = h := rfl
@[simp] theorem acceptReply_savedHeaderForRevive (h : Header) (s : State) : (acceptReply h s).savedHeaderForRevive = s.savedHeaderForRevive := rfl
@[simp] theorem acceptReply_hasSavedSession (h : Header) (s : State) : (acceptReply h s).hasSavedSession = s.hasSavedSession := rfl
@[simp] theorem acceptReply_inflight (h : Header) (s : State) : (acceptReply h s).inflight = [] := rfl
@[simp] theorem acceptReply_now (h : Header) (s : State) : (acceptReply h s).now = s.now := rfl
@[simp] theorem acceptReply_cmd (h : Header) (s : State) : (acceptReply h s).cmd = s.cmd := rfl
@[simp] theorem acceptReply_result (h : Header) (s : State) : (acceptReply h s).result = s.result := rfl
@[simp] theorem acceptReply_txLen (h : Header) (s : State) : (acceptReply h s).txLen = s.txLen := rfl
@[simp] theorem acceptReply_rxNoDgram (h : Header) (s : State) : (acceptReply h s).rxNoDgram = s.rxNoDgram := rfl
@[simp] theorem acceptReply_rxLen (h : Header) (s : State) : (acceptReply h s).rxLen = s.rxLen := rfl
@[simp] theorem acceptReply_hdrIn (h : Header) (s : State) : (acceptReply h s).hdrIn = s.hdrIn := rfl
@[simp] theorem acceptReply_hdrOut (h : Header) (s : State) : (acceptReply h s).hdrOut = s.hdrOut := rfl
@[simp] theorem acceptReply_hdrOutPlen (h : Header) (s : State) : (acceptReply h s).hdrOutPlen = s.hdrOutPlen := rfl
@[simp] theorem acceptReply_mem (h : Header) (s : State) : (acceptReply h s).mem = s.mem := rfl
@[simp] theorem acceptReply_tx (h : Header) (s : State) : (acceptReply h s).tx = s.tx := rfl
@[simp] theorem acceptReply_busOut (h : Header) (s : State) : (acceptReply h s).busOut = s.busOut := rfl
@[simp] theorem acceptReply_input (h : Header) (s : State) : (acceptReply h s).input = s.input := rfl
@[simp] theorem acceptReply_drawEpoch (h : Header) (s : State) : (acceptReply h s).drawEpoch = s.drawEpoch := rfl

/-! ### `refreshPeer` -/

@[simp] theorem refreshPeer_hsState (h : Header) (s : State) : (refreshPeer h s).hsState = s.hsState := rfl
@[simp] theorem refreshPeer_pendingKind (h : Header) (s : State) : (refreshPeer h s).pendingKind = s.pendingKind := rfl
@[simp] theorem refreshPeer_pendingSeq (h : Header) (s : State) : (refreshPeer h s).pendingSeq = s.pendingSeq := rfl
@[simp] theorem refreshPeer_discAttempts (h : Header) (s : State) : (refreshPeer h s).discAttempts = s.discAttempts := rfl
@[simp] theorem refreshPeer_nextSeq (h : Header) (s : State) : (refreshPeer h s).nextSeq = s.nextSeq := rfl
@[simp] theorem refreshPeer_lastPeerSeq (h : Header) (s : State) : (refreshPeer h s).lastPeerSeq = h.seq := rfl
@[simp] theorem refreshPeer_peerWindow (h : Header) (s : State) : (refreshPeer h s).peerWindow = h.wnd := rfl
@[simp] theorem refreshPeer_bytesInFlight (h : Header) (s : State) : (refreshPeer h s).bytesInFlight = s.bytesInFlight := rfl
@[simp] theorem refreshPeer_lastHeaderTemplate (h : Header) (s : State) : (refreshPeer h s).lastHeaderTemplate = h := rfl
@[simp] theorem refreshPeer_savedHeaderForRevive (h : Header) (s : State) : (refreshPeer h s).savedHeaderForRevive = s.savedHeaderForRevive := rfl
@[simp] theorem refreshPeer_hasSavedSession (h : Header) (s : State) : (refreshPeer h s).hasSavedSession = s.hasSavedSession := rfl
@[simp] theorem refreshPeer_inflight (h : Header) (s : State) : (refreshPeer h s).inflight = s.inflight := rfl
@[simp] theorem refreshPeer_now (h : Header) (s : State) : (refreshPeer h s).now = s.now := rfl
@[simp] theorem refreshPeer_cmd (h : Header) (s : State) : (refreshPeer h s).cmd = s.cmd := rfl
@[simp] theorem refreshPeer_result (h : Header) (s : State) : (refreshPeer h s).result = s.result := rfl
@[simp] theorem refreshPeer_txLen (h : Header) (s : State) : (refreshPeer h s).txLen = s.txLen := rfl
@[simp] theorem refreshPeer_rxNoDgram (h : Header) (s : State) : (refreshPeer h s).rxNoDgram = s.rxNoDgram := rfl
@[simp] theorem refreshPeer_rxLen (h : Header) (s : State) : (refreshPeer h s).rxLen = s.rxLen := rfl
@[simp] theorem refreshPeer_hdrIn (h : Header) (s : State) : (refreshPeer h s).hdrIn = s.hdrIn := rfl
@[simp] theorem refreshPeer_hdrOut (h : Header) (s : State) : (refreshPeer h s).hdrOut = s.hdrOut := rfl
@[simp] theorem refreshPeer_hdrOutPlen (h : Header) (s : State) : (refreshPeer h s).hdrOutPlen = s.hdrOutPlen := rfl
@[simp] theorem refreshPeer_mem (h : Header) (s : State) : (refreshPeer h s).mem = s.mem := rfl
@[simp] theorem refreshPeer_tx (h : Header) (s : State) : (refreshPeer h s).tx = s.tx := rfl
@[simp] theorem refreshPeer_busOut (h : Header) (s : State) : (refreshPeer h s).busOut = s.busOut := rfl
@[simp] theorem refreshPeer_input (h : Header) (s : State) : (refreshPeer h s).input = s.input := rfl
@[simp] theorem refreshPeer_drawEpoch (h : Header) (s : State) : (refreshPeer h s).drawEpoch = s.drawEpoch := rfl

/-! ### `completeDisconnect` -/

@[simp] theorem completeDisconnect_hsState (s : State) : (completeDisconnect s).hsState = .disconnected := rfl
@[simp] theorem completeDisconnect_pendingKind (s : State) : (completeDisconnect s).pendingKind = s.pendingKind := rfl
@[simp] theorem completeDisconnect_pendingSeq (s : State) : (completeDisconnect s).pendingSeq = s.pendingSeq := rfl
@[simp] theorem completeDisconnect_discAttempts (s : State) : (completeDisconnect s).discAttempts = 0 := rfl
@[simp] theorem completeDisconnect_nextSeq (s : State) : (completeDisconnect s).nextSeq = s.nextSeq := rfl
@[simp] theorem completeDisconnect_lastPeerSeq (s : State) : (completeDisconnect s).lastPeerSeq = s.lastPeerSeq := rfl
@[simp] theorem completeDisconnect_peerWindow (s : State) : (completeDisconnect s).peerWindow = s.peerWindow := rfl
@[simp] theorem completeDisconnect_bytesInFlight (s : State) : (completeDisconnect s).bytesInFlight = 0 := rfl
@[simp] theorem completeDisconnect_lastHeaderTemplate (s : State) : (completeDisconnect s).lastHeaderTemplate = s.lastHeaderTemplate := rfl
@[simp] theorem completeDisconnect_savedHeaderForRevive (s : State) : (completeDisconnect s).savedHeaderForRevive = s.lastHeaderTemplate := rfl
@[simp] theorem completeDisconnect_hasSavedSession (s : State) : (completeDisconnect s).hasSavedSession = true := rfl
@[simp] theorem completeDisconnect_inflight (s : State) : (completeDisconnect s).inflight = [] := rfl
@[simp] theorem completeDisconnect_now (s : State) : (completeDisconnect s).now = s.now := rfl
@[simp] theorem completeDisconnect_cmd (s : State) : (completeDisconnect s).cmd = s.cmd := rfl
@[simp] theorem completeDisconnect_result (s : State) : (completeDisconnect s).result = s.result := rfl
@[simp] theorem completeDisconnect_txLen (s : State) : (completeDisconnect s).txLen = s.txLen := rfl
@[simp] theorem completeDisconnect_rxNoDgram (s : State) : (completeDisconnect s).rxNoDgram = s.rxNoDgram := rfl
@[simp] theorem completeDisconnect_rxLen (s : State) : (completeDisconnect s).rxLen = s.rxLen := rfl
@[simp] theorem completeDisconnect_hdrIn (s : State) : (completeDisconnect s).hdrIn = s.hdrIn := rfl
@[simp] theorem completeDisconnect_hdrOut (s : State) : (completeDisconnect s).hdrOut = s.hdrOut := rfl
@[simp] theorem completeDisconnect_hdrOutPlen (s : State) : (completeDisconnect s).hdrOutPlen = s.hdrOutPlen := rfl
@[simp] theorem completeDisconnect_mem (s : State) : (completeDisconnect s).mem = s.mem := rfl
@[simp] theorem completeDisconnect_tx (s : State) : (completeDisconnect s).tx = s.tx := rfl
@[simp] theorem completeDisconnect_busOut (s : State) : (completeDisconnect s).busOut = s.busOut := rfl
@[simp] theorem completeDisconnect_input (s : State) : (completeDisconnect s).input = s.input := rfl
@[simp] theorem completeDisconnect_drawEpoch (s : State) : (completeDisconnect s).drawEpoch = s.drawEpoch := rfl

/-! ### `retire` -/

@[simp] theorem retire_hsState (a : Word) (s : State) : (retire a s).hsState = s.hsState := rfl
@[simp] theorem retire_pendingKind (a : Word) (s : State) : (retire a s).pendingKind = s.pendingKind := rfl
@[simp] theorem retire_pendingSeq (a : Word) (s : State) : (retire a s).pendingSeq = s.pendingSeq := rfl
@[simp] theorem retire_discAttempts (a : Word) (s : State) : (retire a s).discAttempts = s.discAttempts := rfl
@[simp] theorem retire_nextSeq (a : Word) (s : State) : (retire a s).nextSeq = s.nextSeq := rfl
@[simp] theorem retire_lastPeerSeq (a : Word) (s : State) : (retire a s).lastPeerSeq = s.lastPeerSeq := rfl
@[simp] theorem retire_peerWindow (a : Word) (s : State) : (retire a s).peerWindow = s.peerWindow := rfl
@[simp] theorem retire_bytesInFlight (a : Word) (s : State) : (retire a s).bytesInFlight = s.bytesInFlight - BitVec.ofNat 16 (sumLen (s.inflight.filter (ackCovers a))) := rfl
@[simp] theorem retire_lastHeaderTemplate (a : Word) (s : State) : (retire a s).lastHeaderTemplate = s.lastHeaderTemplate := rfl
@[simp] theorem retire_savedHeaderForRevive (a : Word) (s : State) : (retire a s).savedHeaderForRevive = s.savedHeaderForRevive := rfl
@[simp] theorem retire_hasSavedSession (a : Word) (s : State) : (retire a s).hasSavedSession = s.hasSavedSession := rfl
@[simp] theorem retire_inflight (a : Word) (s : State) : (retire a s).inflight = s.inflight.filter (fun e => !ackCovers a e) := rfl
@[simp] theorem retire_now (a : Word) (s : State) : (retire a s).now = s.now := rfl
@[simp] theorem retire_cmd (a : Word) (s : State) : (retire a s).cmd = s.cmd := rfl
@[simp] theorem retire_result (a : Word) (s : State) : (retire a s).result = s.result := rfl
@[simp] theorem retire_txLen (a : Word) (s : State) : (retire a s).txLen = s.txLen := rfl
@[simp] theorem retire_rxNoDgram (a : Word) (s : State) : (retire a s).rxNoDgram = s.rxNoDgram := rfl
@[simp] theorem retire_rxLen (a : Word) (s : State) : (retire a s).rxLen = s.rxLen := rfl
@[simp] theorem retire_hdrIn (a : Word) (s : State) : (retire a s).hdrIn = s.hdrIn := rfl
@[simp] theorem retire_hdrOut (a : Word) (s : State) : (retire a s).hdrOut = s.hdrOut := rfl
@[simp] theorem retire_hdrOutPlen (a : Word) (s : State) : (retire a s).hdrOutPlen = s.hdrOutPlen := rfl
@[simp] theorem retire_mem (a : Word) (s : State) : (retire a s).mem = s.mem := rfl
@[simp] theorem retire_tx (a : Word) (s : State) : (retire a s).tx = s.tx := rfl
@[simp] theorem retire_busOut (a : Word) (s : State) : (retire a s).busOut = s.busOut := rfl
@[simp] theorem retire_input (a : Word) (s : State) : (retire a s).input = s.input := rfl
@[simp] theorem retire_drawEpoch (a : Word) (s : State) : (retire a s).drawEpoch = s.drawEpoch := rfl

/-! ### `resetPulse` -/

@[simp] theorem resetPulse_hsState (s : State) : (resetPulse s).hsState = State.reset.hsState := rfl
@[simp] theorem resetPulse_pendingKind (s : State) : (resetPulse s).pendingKind = State.reset.pendingKind := rfl
@[simp] theorem resetPulse_pendingSeq (s : State) : (resetPulse s).pendingSeq = State.reset.pendingSeq := rfl
@[simp] theorem resetPulse_discAttempts (s : State) : (resetPulse s).discAttempts = State.reset.discAttempts := rfl
@[simp] theorem resetPulse_nextSeq (s : State) : (resetPulse s).nextSeq = State.reset.nextSeq := rfl
@[simp] theorem resetPulse_lastPeerSeq (s : State) : (resetPulse s).lastPeerSeq = State.reset.lastPeerSeq := rfl
@[simp] theorem resetPulse_peerWindow (s : State) : (resetPulse s).peerWindow = State.reset.peerWindow := rfl
@[simp] theorem resetPulse_bytesInFlight (s : State) : (resetPulse s).bytesInFlight = State.reset.bytesInFlight := rfl
@[simp] theorem resetPulse_lastHeaderTemplate (s : State) : (resetPulse s).lastHeaderTemplate = State.reset.lastHeaderTemplate := rfl
@[simp] theorem resetPulse_savedHeaderForRevive (s : State) : (resetPulse s).savedHeaderForRevive = State.reset.savedHeaderForRevive := rfl
@[simp] theorem resetPulse_hasSavedSession (s : State) : (resetPulse s).hasSavedSession = State.reset.hasSavedSession := rfl
@[simp] theorem resetPulse_inflight (s : State) : (resetPulse s).inflight = State.reset.inflight := rfl
@[simp] theorem resetPulse_now (s : State) : (resetPulse s).now = State.reset.now := rfl
@[simp] theorem resetPulse_cmd (s : State) : (resetPulse s).cmd = State.reset.cmd := rfl
@[simp] theorem resetPulse_result (s : State) : (resetPulse s).result = State.reset.result := rfl
@[simp] theorem resetPulse_txLen (s : State) : (resetPulse s).txLen = State.reset.txLen := rfl
@[simp] theorem resetPulse_rxNoDgram (s : State) : (resetPulse s).rxNoDgram = State.reset.rxNoDgram := rfl
@[simp] theorem resetPulse_rxLen (s : State) : (resetPulse s).rxLen = State.reset.rxLen := rfl
@[simp] theorem resetPulse_hdrIn (s : State) : (resetPulse s).hdrIn = State.reset.hdrIn := rfl
@[simp] theorem resetPulse_hdrOut (s : State) : (resetPulse s).hdrOut = State.reset.hdrOut := rfl
@[simp] theorem resetPulse_hdrOutPlen (s : State) : (resetPulse s).hdrOutPlen = State.reset.hdrOutPlen := rfl
@[simp] theorem resetPulse_mem (s : State) : (resetPulse s).mem = State.reset.mem := rfl
@[simp] theorem resetPulse_tx (s : State) : (resetPulse s).tx = State.reset.tx := rfl
@[simp] theorem resetPulse_busOut (s : State) : (resetPulse s).busOut = State.reset.busOut := rfl
@[simp] theorem resetPulse_input (s : State) : (resetPulse s).input = s.input := rfl
@[simp] theorem resetPulse_drawEpoch (s : State) : (resetPulse s).drawEpoch = s.drawEpoch + 1 := rfl

/-! ### `sweep` -/

@[simp] theorem sweep_hsState (p : Params) (s : State) : (sweep p s).hsState = s.hsState := rfl
@[simp] theorem sweep_pendingKind (p : Params) (s : State) : (sweep p s).pendingKind = s.pendingKind := rfl
@[simp] theorem sweep_pendingSeq (p : Params) (s : State) : (sweep p s).pendingSeq = s.pendingSeq := rfl
@[simp] theorem sweep_discAttempts (p : Params) (s : State) : (sweep p s).discAttempts = s.discAttempts := rfl
@[simp] theorem sweep_nextSeq (p : Params) (s : State) : (sweep p s).nextSeq = s.nextSeq := rfl
@[simp] theorem sweep_lastPeerSeq (p : Params) (s : State) : (sweep p s).lastPeerSeq = s.lastPeerSeq := rfl
@[simp] theorem sweep_peerWindow (p : Params) (s : State) : (sweep p s).peerWindow = s.peerWindow := rfl
@[simp] theorem sweep_bytesInFlight (p : Params) (s : State) : (sweep p s).bytesInFlight = s.bytesInFlight - BitVec.ofNat 16 (sweepTable p s.now s.inflight).droppedLens.sum := rfl
@[simp] theorem sweep_lastHeaderTemplate (p : Params) (s : State) : (sweep p s).lastHeaderTemplate = s.lastHeaderTemplate := rfl
@[simp] theorem sweep_savedHeaderForRevive (p : Params) (s : State) : (sweep p s).savedHeaderForRevive = s.savedHeaderForRevive := rfl
@[simp] theorem sweep_hasSavedSession (p : Params) (s : State) : (sweep p s).hasSavedSession = s.hasSavedSession := rfl
@[simp] theorem sweep_inflight (p : Params) (s : State) : (sweep p s).inflight = (sweepTable p s.now s.inflight).table := rfl
@[simp] theorem sweep_now (p : Params) (s : State) : (sweep p s).now = s.now := rfl
@[simp] theorem sweep_cmd (p : Params) (s : State) : (sweep p s).cmd = s.cmd := rfl
@[simp] theorem sweep_result (p : Params) (s : State) : (sweep p s).result = resultWord .ok (sweepTable p s.now s.inflight).sent.length (sweepTable p s.now s.inflight).droppedLens.length := rfl
@[simp] theorem sweep_txLen (p : Params) (s : State) : (sweep p s).txLen = s.txLen := rfl
@[simp] theorem sweep_rxNoDgram (p : Params) (s : State) : (sweep p s).rxNoDgram = s.rxNoDgram := rfl
@[simp] theorem sweep_rxLen (p : Params) (s : State) : (sweep p s).rxLen = s.rxLen := rfl
@[simp] theorem sweep_hdrIn (p : Params) (s : State) : (sweep p s).hdrIn = s.hdrIn := rfl
@[simp] theorem sweep_hdrOut (p : Params) (s : State) : (sweep p s).hdrOut = s.hdrOut := rfl
@[simp] theorem sweep_hdrOutPlen (p : Params) (s : State) : (sweep p s).hdrOutPlen = s.hdrOutPlen := rfl
@[simp] theorem sweep_mem (p : Params) (s : State) : (sweep p s).mem = s.mem := rfl
@[simp] theorem sweep_tx (p : Params) (s : State) : (sweep p s).tx = s.tx ++ (sweepTable p s.now s.inflight).sent := rfl
@[simp] theorem sweep_busOut (p : Params) (s : State) : (sweep p s).busOut = s.busOut := rfl
@[simp] theorem sweep_input (p : Params) (s : State) : (sweep p s).input = s.input := rfl
@[simp] theorem sweep_drawEpoch (p : Params) (s : State) : (sweep p s).drawEpoch = s.drawEpoch := rfl

end Sys2Proof.Machine
end

