-- ==== Sys2Proof/Laws/Step.lean ====
section
/-! SUPPORT. What one step can do, said once: every command answers a next state, and the effect of each port event. -/

namespace Sys2Proof.Machine

open Sys2Proof

/-- Every command completes in every state (R220, 93_implementation_defined.md §5). -/
theorem exec_isNext (i : Instr) (s : State) : ∃ t, exec i s = .next t := by
  cases i <;> exact ⟨_, rfl⟩

theorem runCommand_isNext (w : Word) (s : State) : ∃ t, runCommand w s = .next t := by
  unfold runCommand
  split
  · exact exec_isNext _ _
  · exact ⟨_, rfl⟩

theorem busWrite_isNext (off : Nat) (v : Word) (s : State) : ∃ t, busWrite off v s = .next t := by
  unfold busWrite
  split
  · exact runCommand_isNext _ _
  · exact ⟨_, rfl⟩
  · exact ⟨_, rfl⟩

theorem accessRefusal_none_iff (off : BitVec 13) (size : AccessSize) :
    accessRefusal off size = none ↔ size = .word ∧ off.toNat % 4 = 0 := by
  unfold accessRefusal
  split
  · simp_all
  · split <;> simp_all

/-- What one port event can do: a tick, a reset, a read, a command, an illegal command word, a plain store, or nothing. -/
theorem serve_cases {ev : HostInput} {s t : State} (h : serve ev s = .next t) :
    (ev = .tick ∧ t = tickPulse s) ∨ (ev = .reset ∧ t = resetPulse s) ∨
    (∃ off, ev = .read off .word ∧ off.toNat % 4 = 0 ∧ t = { s with busOut := s.busOut ++ [busRead off.toNat s] }) ∨
    (∃ off v, ev = .write off .word v ∧ off.toNat % 4 = 0 ∧
      ((mappedWord off.toNat = some .cmd ∧ ∃ i, decode v = .ok i ∧ exec i { s with cmd := v } = .next t) ∨
       (mappedWord off.toNat = some .cmd ∧ (∃ e, decode v = .error e) ∧
          t = finishCode .illegalCommand { s with cmd := v }) ∨
       (∃ r, mappedWord off.toNat = some r ∧ r ≠ .cmd ∧ t = writeMapped s v r) ∨
       (mappedWord off.toNat = none ∧ t = s))) := by
  cases ev with
  | tick => exact .inl ⟨rfl, by simpa [serve] using h.symm⟩
  | reset => exact .inr (.inl ⟨rfl, by simpa [serve] using h.symm⟩)
  | read off size =>
    simp only [serve] at h
    split at h
    · cases h
    · next hr =>
      obtain ⟨rfl, ha⟩ := (accessRefusal_none_iff _ _).mp hr
      exact .inr (.inr (.inl ⟨off, rfl, ha, by simpa using h.symm⟩))
  | write off size v =>
    simp only [serve] at h
    split at h
    · cases h
    · next hr =>
      obtain ⟨rfl, ha⟩ := (accessRefusal_none_iff _ _).mp hr
      refine .inr (.inr (.inr ⟨off, v, rfl, ha, ?_⟩))
      unfold busWrite at h
      split at h
      · next hm =>
        unfold runCommand at h
        split at h
        · next i hd => exact .inl ⟨hm, i, hd, h⟩
        · next e hd => exact .inr (.inl ⟨hm, ⟨e, hd⟩, by simpa [writeMapped] using h.symm⟩)
      · next r hr' hm => exact .inr (.inr (.inl ⟨r, hm, fun hc => hr' (by rw [hc]), by simpa using h.symm⟩))
      · next hm => exact .inr (.inr (.inr ⟨hm, by simpa using h.symm⟩))

/-- With no port event a step does nothing; otherwise it serves the next one. -/
theorem step_cases {s t : State} (h : step s = .next t) :
    (s.input = [] ∧ t = s) ∨ (∃ ev rest, s.input = ev :: rest ∧ serve ev { s with input := rest } = .next t) := by
  unfold step at h
  split at h
  · next hi => exact .inl ⟨hi, by simpa using h.symm⟩
  · next ev rest hi => exact .inr ⟨ev, rest, hi, h⟩

/-- CMD is the one word at offset 0 (R51). -/
theorem mappedWord_cmd_iff (off : Nat) : mappedWord off = some .cmd ↔ off = 0 := by
  refine ⟨fun h => ?_, fun h => by subst h; rfl⟩
  unfold mappedWord at h
  split at h
  · next w hw =>
    have hm : (off, MappedWord.cmd) ∈ fixedWords := by
      have := List.lookup_eq_some_iff.mp (hw.trans (by simpa using h))
      obtain ⟨l1, l2, h12, -⟩ := this
      rw [h12]; simp
    simpa [fixedWords] using hm
  all_goals simp at h

end Sys2Proof.Machine
end

