-- ==== Sys2Proof/Tests/Slice0.lean ====
section
/-! SUPPORT. The model's own tests: ill-formed lines refused, command words written out from R87 and R88, one or two small steps
per command with the expected values of spec/95_test_vectors.md (its parameters: LOCAL_WINDOW 4096, RTO_TICKS 10,
RETRY_CEILING 2, N_SLOTS 8), and for every statement with hypotheses a state that meets them. -/

namespace Sys2Proof.Tests

open Sys2Proof Sys2Proof.Machine

/-! ### Well-formedness refuses -/

theorem test_bank_index_out_of_range : HostLine.wellFormed (.wr (.named .HDR_IN 10) 0) = false := by decide
theorem test_buffer_index_out_of_range : HostLine.wellFormed (.rd (.named .RX_BUF 368)) = false := by decide
theorem test_register_has_one_word : HostLine.wellFormed (.rd (.named .NOW 1)) = false := by decide
theorem test_unaligned_offset : HostLine.wellFormed (.rd (.offset 0x802)) = false := by decide
theorem test_offset_outside_window : HostLine.wellFormed (.wr (.offset 0x2000) 0) = false := by decide
theorem test_value_wider_than_word : HostLine.wellFormed (.wr (.named .CMD 0) 0x100000000) = false := by decide
theorem test_txload_too_long : HostLine.wellFormed (.txload (List.replicate 1441 0)) = false := by
  rw [HostLine.wellFormed, List.length_replicate]; rfl
theorem test_txlen_wider_than_word : HostLine.wellFormed (.txlen 0x100000000) = false := by decide
theorem test_rxload_too_long : HostLine.wellFormed (.rxload (List.replicate 1473 0)) = false := by
  rw [HostLine.wellFormed, List.length_replicate]; rfl

/-! ### Decoding: the words of R87 and R88, bit by bit -/

theorem test_pack_word : decode 0b00000000000000000000000000000001#32 = .ok .pack := by decide
theorem test_unpack_word : decode 0b00000000000000000000000000000010#32 = .ok .unpack := by decide
theorem test_connect_tx_word : decode 0b00000000000000000000000000010000#32 = .ok .connectTx := by decide
theorem test_connect_rx_word : decode 0b00000000000000000000000000010001#32 = .ok .connectRx := by decide
theorem test_disconnect_tx_word : decode 0b00000000000000000000000000010010#32 = .ok .disconnectTx := by decide
theorem test_disconnect_rx_word : decode 0b00000000000000000000000000010011#32 = .ok .disconnectRx := by decide
theorem test_revive_tx_word : decode 0b00000000000000000000000000010100#32 = .ok .reviveTx := by decide
theorem test_revive_rx_word : decode 0b00000000000000000000000000010101#32 = .ok .reviveRx := by decide
/-- FO = 0x80, FID = 0x65, MF = 1. -/
theorem test_data_tx_word : decode 0b10000000011001010000000100100000#32 = .ok (.dataTx 1 0x65 0x80) := by decide
theorem test_ack_rx_word : decode 0b00000000000000000000000000100001#32 = .ok .ackRx := by decide
theorem test_sweep_word : decode 0b00000000000000000000000000100010#32 = .ok .sweep := by decide
/-- V-E1 and V-E2. -/
theorem test_unknown_opcodes : decode 0x00000000#32 = .error .unknownOpcode ∧ decode 0x00000023#32 = .error .unknownOpcode := by
  decide
/-- V-E3: CONNECT_TX with bit 8 set. -/
theorem test_operand_bits_refused : decode 0x00000110#32 = .error .operandBits := by decide
/-- V-E4: DATA_TX with reserved bit 9 set. -/
theorem test_reserved_bits_refused : decode 0x00000220#32 = .error .reservedBits := by decide
/-- V-E6. -/
theorem test_data_tx_full_fields : decode 0xFFFF0120#32 = .ok (.dataTx 1 0xFF 0xFF) := by decide
/-- R91's spelling of `data_tx fid=F, fo=O, mf=M`: `(O << 24) | (F << 16) | (M << 8) | 0x20`. -/
theorem test_data_tx_encodes : encode (.dataTx 1 0x7F 0x03) = 0x037F0120#32 := by decide
theorem test_table_word_decodes : decodeTableWord 32 0x037F0020 = some (.dataTx 0 0x7F 0x03) := by decide
/-- No word matches two rows of the opcode map: the rows differ in a bit both masks keep. -/
theorem test_rows_do_not_overlap :
    opcodeRows.Pairwise (fun a b => a.value &&& (a.mask &&& b.mask) ≠ b.value &&& (a.mask &&& b.mask)) := by decide

/-! ### Small states -/

def exParams : Params := { rtoTicks := 10, retryCeiling := 2, localWindow := 4096, nSlots := 8, emptyOverWindow := false }

/-- The session id `S` of the vectors. -/
def sidS : Vector Byte 16 := Vector.ofFn (fun i => BitVec.ofNat 8 (0xA0 + i.val))

/-- `Rp(sf, seq, ack, wnd)` as a header. -/
def replyHeader (sf seq ack : Word) (wnd : Half) : Header :=
  { sid := sidS, sf := sf, seq := seq, ack := ack, wnd := wnd, fid := 0, fo := 0 }

/-- A state with a received datagram presented. -/
def present (b : List Byte) (s : State) : State :=
  { s with mem := memInsertList 0x1000 b s.mem, rxNoDgram := false, rxLen := BitVec.ofNat 11 b.length }

/-- A state with `Rp(sf, seq, ack, wnd)` presented. -/
def presentReply (sf seq ack : Word) (wnd : Half) (s : State) : State :=
  present (packHeader (replyHeader sf seq ack wnd)) s

/-- A state with no datagram presented. -/
def presentNothing (s : State) : State := { s with rxNoDgram := true }

/-- After CT: a Connect of seq 0 is pending. -/
def connectingState : State := { State.reset with hsState := .connecting, nextSeq := 1 }

/-- C(pw). -/
def connectedState (pw : Half) : State :=
  { State.reset with
    hsState := .connected, nextSeq := 101, lastPeerSeq := 100, peerWindow := pw
    lastHeaderTemplate := replyHeader 0x02 100 0 pw }

/-- A Disconnect is pending. -/
def disconnectingState : State := { connectedState 7200 with hsState := .disconnecting, nextSeq := 102 }

/-- A saved session (template of sid S, STTL 3), disconnected, as V-R5. -/
def savedState : State :=
  { State.reset with
    savedHeaderForRevive := replyHeader 0x62 100 0 7200, hasSavedSession := true, nextSeq := 103, lastPeerSeq := 100 }

/-- After V-R5. -/
def revivingState : State := { savedState with hsState := .connecting, pendingKind := .revive, nextSeq := 104 }

/-- An entry of one payload byte. -/
def exEntry (seq lastSend : Word) (retries : BitVec 8) : Entry :=
  { bytes := packHeader (replyHeader 0x04 seq 100 4096) ++ [0x55], seq := seq, len := 1, lastSend := lastSend, retries := retries }

/-- A connected state with some entries in flight. -/
def inflightState (es : List Entry) : State :=
  { connectedState 7200 with inflight := es, bytesInFlight := BitVec.ofNat 16 es.length }

/-- The state a command leaves. -/
def after : Host.Outcome State Fault Refusal → State
  | .next t => t
  | .fault _ => State.reset
  | .refused _ => State.reset

/-! ### Codec -/

/-- V-C1. -/
def headerC1 : Header :=
  { sid := Vector.ofFn (fun i => BitVec.ofNat 8 i.val)
    sf := 0x2468ACF5#32, seq := 0xDEADBEEF#32, ack := 0x01020304#32, wnd := 0xABCD, fid := 0x7F, fo := 0x80 }

theorem test_pack :
    readBytes (after (exec .pack { State.reset with hdrIn := headerC1 })) 0x140 32 =
      [0x00, 0x01, 0x02, 0x03, 0x04, 0x05, 0x06, 0x07, 0x08, 0x09, 0x0A, 0x0B, 0x0C, 0x0D, 0x0E, 0x0F,
       0xF5, 0xAC, 0x68, 0x24, 0xEF, 0xBE, 0xAD, 0xDE, 0x04, 0x03, 0x02, 0x01, 0xCD, 0xAB, 0x7F, 0x80] := by decide

/-- V-C3: the bytes 00 01 .. 1F EE. -/
def stateC3 : State := present ((List.range 32).map (BitVec.ofNat 8) ++ [0xEE]) State.reset

theorem test_unpack :
    (after (exec .unpack stateC3)).hdrOut.sf = 0x13121110#32 ∧ (after (exec .unpack stateC3)).hdrOut.wnd = 0x1D1C ∧
    (after (exec .unpack stateC3)).hdrOut.fid = 0x1E ∧ (after (exec .unpack stateC3)).hdrOutPlen = 1 ∧
    (after (exec .unpack stateC3)).result = 0 := by decide

/-- V-C4: 31 bytes are malformed and leave HDR_OUT. -/
theorem test_unpack_malformed :
    (after (exec .unpack { stateC3 with rxLen := 31, hdrOut := headerC1 })).result = 0x00000001#32 ∧
    (after (exec .unpack { stateC3 with rxLen := 31, hdrOut := headerC1 })).hdrOut = headerC1 := by decide

/-- V-C11. -/
theorem test_mkHdr :
    packHeader (mkHdr (replyHeader 0xFFFFFFE2#32 9 9 9) 0x04 1 2 3 4 5) =
      [0xA0, 0xA1, 0xA2, 0xA3, 0xA4, 0xA5, 0xA6, 0xA7, 0xA8, 0xA9, 0xAA, 0xAB, 0xAC, 0xAD, 0xAE, 0xAF,
       0xE4, 0xFF, 0xFF, 0xFF, 1, 0, 0, 0, 2, 0, 0, 0, 3, 0, 4, 5] := by decide

/-! ### Session commands -/

/-- V-N1. -/
theorem test_connect_tx :
    (connectTx exParams State.reset).tx =
      [[0, 0, 0, 0, 0, 0, 0, 0, 0, 0, 0, 0, 0, 0, 0, 0, 0x10, 0, 0, 0, 0, 0, 0, 0, 0, 0, 0, 0, 0x00, 0x10, 0, 0]] ∧
    (connectTx exParams State.reset).nextSeq = 1 ∧ statusWord (connectTx exParams State.reset) = 0x01 := by decide

/-- V-N2. -/
theorem test_connect_rx_accepts :
    (after (exec .connectRx (presentReply 0x02 100 0 7200 connectingState))).nextSeq = 101 ∧
    (after (exec .connectRx (presentReply 0x02 100 0 7200 connectingState))).peerWindow = 7200 ∧
    statusWord (after (exec .connectRx (presentReply 0x02 100 0 7200 connectingState))) = 0x06 := by decide

/-- V-N3: another `ack` than the seq just sent. -/
theorem test_connect_rx_rejects :
    (after (exec .connectRx (presentReply 0x02 100 1 7200 connectingState))).result = 0x00000003#32 ∧
    (after (exec .connectRx (presentReply 0x02 100 1 7200 connectingState))).hsState = .disconnected := by decide

/-- V-D1. -/
theorem test_disconnect_tx :
    (after (exec .disconnectTx { connectedState 7200 with nextSeq := 102, lastPeerSeq := 101 })).tx =
      [[0xA0, 0xA1, 0xA2, 0xA3, 0xA4, 0xA5, 0xA6, 0xA7, 0xA8, 0xA9, 0xAA, 0xAB, 0xAC, 0xAD, 0xAE, 0xAF,
        0x1C, 0, 0, 0, 0x66, 0, 0, 0, 0x65, 0, 0, 0, 0, 0, 0, 0]] ∧
    statusWord (after (exec .disconnectTx { connectedState 7200 with nextSeq := 102, lastPeerSeq := 101 })) = 0x07 := by decide

/-- V-D2: the snapshot is the template before the reply. -/
theorem test_disconnect_rx_saves :
    (after (exec .disconnectRx (presentReply 0x04 7 0 0 disconnectingState))).savedHeaderForRevive = replyHeader 0x02 100 0 7200 ∧
    statusWord (after (exec .disconnectRx (presentReply 0x04 7 0 0 disconnectingState))) = 0x08 := by decide

/-- V-D4. -/
theorem test_disconnect_rx_second_attempt :
    (after (exec .disconnectRx (presentReply 0x02 7 0 0 { disconnectingState with discAttempts := 1 }))).result = 0x00000209#32 ∧
    (after (exec .disconnectRx (presentReply 0x02 7 0 0 { disconnectingState with discAttempts := 1 }))).hdrOut
      = replyHeader 0x02 7 0 0 := by decide

/-- V-R5. -/
theorem test_revive_tx :
    (reviveTx exParams { savedState with txLen := 2, mem := [(0x800, 0x68), (0x801, 0x69)] }).tx =
      [[0xA0, 0xA1, 0xA2, 0xA3, 0xA4, 0xA5, 0xA6, 0xA7, 0xA8, 0xA9, 0xAA, 0xAB, 0xAC, 0xAD, 0xAE, 0xAF,
        0x6C, 0, 0, 0, 0x67, 0, 0, 0, 0x64, 0, 0, 0, 0x00, 0x10, 0, 0, 0x68, 0x69]] := by decide

/-- V-R3: the state check comes before the length check. -/
theorem test_revive_tx_checks_state_first :
    (reviveTx exParams { connectedState 7200 with hasSavedSession := true, txLen := 2000 }).result = 0x0000000A#32 := by decide

/-- V-R6. -/
theorem test_revive_rx_accepts :
    (after (exec .reviveRx (presentReply 0x06 500 0 2880 revivingState))).nextSeq = 501 ∧
    (after (exec .reviveRx (presentReply 0x06 500 0 2880 revivingState))).hsState = .connected ∧
    (after (exec .reviveRx (presentReply 0x06 500 0 2880 revivingState))).hasSavedSession = true := by decide

/-- V-R8. -/
theorem test_revive_rx_no_reply :
    (after (exec .reviveRx (presentNothing revivingState))).result = 0x00000005#32 ∧
    (after (exec .reviveRx (presentNothing revivingState))).hsState = .disconnected := by decide

/-! ### Scheduler -/

/-- V-S8, its second fragment shortened to one byte: 1440 bytes in flight, so `wnd` is 4096 - 1440 = 2656 (60 0A). -/
theorem test_data_tx :
    (dataTx exParams 1 0x65 1 { connectedState 7200 with bytesInFlight := 1440, txLen := 1, mem := [(0x800, 0x77)] }).tx =
      [[0xA0, 0xA1, 0xA2, 0xA3, 0xA4, 0xA5, 0xA6, 0xA7, 0xA8, 0xA9, 0xAA, 0xAB, 0xAC, 0xAD, 0xAE, 0xAF,
        0x05, 0, 0, 0, 0x65, 0, 0, 0, 0x64, 0, 0, 0, 0x60, 0x0A, 0x65, 0x01, 0x77]] := by decide

/-- V-S1 and V-S2 at their boundary: with one byte of window, one byte is admitted and two are not. -/
theorem test_data_tx_window :
    (dataTx exParams 0 1 0 { connectedState 1 with txLen := 1, mem := [(0x800, 0)] }).bytesInFlight = 1 ∧
    (dataTx exParams 0 1 0 { connectedState 1 with txLen := 2 }).result = 0x00000007#32 := by decide

/-- V-S12 with one-byte payloads: `ack = 102` retires 101 and 102 and leaves 103. -/
theorem test_ack_rx_is_cumulative :
    (after (exec .ackRx (presentReply 0x04 7 102 100 (inflightState [exEntry 101 0 0, exEntry 102 0 0, exEntry 103 0 0])))).result
      = 0x00000200#32 ∧
    (after (exec .ackRx (presentReply 0x04 7 102 100 (inflightState [exEntry 101 0 0, exEntry 102 0 0, exEntry 103 0 0])))).inflight
      = [exEntry 103 0 0] := by decide

/-- V-S11: NOT_ACK refreshes nothing. -/
theorem test_ack_rx_not_ack :
    (after (exec .ackRx (presentReply 0x02 7 0xFFFFFFFF#32 9000 (inflightState [exEntry 101 0 0])))).result = 0x00000008#32 ∧
    (after (exec .ackRx (presentReply 0x02 7 0xFFFFFFFF#32 9000 (inflightState [exEntry 101 0 0])))).lastPeerSeq = 100 := by decide

/-- V-T6 and V-T7: elapsed 10 is not expired, elapsed 11 is, across the wrap of `now`. -/
theorem test_sweep_expiry :
    (sweep exParams { inflightState [exEntry 101 0xFFFFFFFA#32 0] with now := 4 }).result = 0x00000000#32 ∧
    (sweep exParams { inflightState [exEntry 101 0xFFFFFFFA#32 0] with now := 5 }).inflight = [exEntry 101 5 1] := by decide

/-- V-T4: at the ceiling the entry is dropped and nothing is emitted. -/
theorem test_sweep_drops :
    (sweep exParams { inflightState [exEntry 101 22 2] with now := 33 }).result = 0x00010000#32 ∧
    (sweep exParams { inflightState [exEntry 101 22 2] with now := 33 }).bytesInFlight = 0 ∧
    (sweep exParams { inflightState [exEntry 101 22 2] with now := 33 }).tx = [] := by decide

/-- V-T8. -/
theorem test_tick_wraps : (after (step { State.reset with now := 0xFFFFFFFF#32, input := [.tick] })).now = 0 := by decide

/-- V-E1 through the port. -/
theorem test_illegal_command : (after (step (State.reset.withFetchWord 32 0))).result = 0x0000000B#32 := by decide

/-- SWEEP as the first command after reset (V-E8). -/
theorem test_first_command_runs : step (State.reset.withFetchWord 32 0x22) = exec .sweep { State.reset with cmd := 0x22 } := by
  rfl

/-! ### Witnesses: a concrete state for the hypotheses of each statement, one theorem per statement -/

/-- The reset state with one port event to come. -/
def pending (ev : HostInput) : State := { State.reset with input := [ev] }

theorem witness_EncodeOfDecode : decode 0x037F0120#32 = .ok (.dataTx 1 0x7F 0x03) ∧ decode 0x22#32 = .ok .sweep := by decide

theorem witness_DecoderSelects :
    0xFFFF0120#32 &&& 0x0000FEFF#32 = 0x00000020#32 ∧ 0x00000020#32 &&& 0x0000FEFF#32 = 0x00000020#32 ∧
    IllegalWord 0x00000000#32 ∧ IllegalWord 0x00000220#32 ∧ IllegalWord 0x00000110#32 ∧ ¬ IllegalWord 0xFFFF0120#32 := by
  unfold IllegalWord; decide

theorem witness_StepRuns :
    (pending (.write 0 .word 0x22)).input = .write 0 .word 0x22 :: [] ∧ decode 0x22#32 = .ok .sweep := by decide

theorem witness_IllegalWord :
    (pending (.write 0 .word 0x23)).input = .write 0 .word 0x23 :: [] ∧ IllegalWord 0x23#32 := by
  unfold IllegalWord; decide

theorem witness_Tick : (pending .tick).input = .tick :: [] := rfl

theorem witness_Reset : (pending .reset).input = .reset :: [] := rfl

theorem witness_OnlyBadAccesses :
    (pending (.write 0 .half 1)).input = .write 0 .half 1 :: [] ∧ AccessSize.half ≠ .word ∧
    (pending (.write 0x1FFD .word 1)).input = .write 0x1FFD .word 1 :: [] ∧ (0x1FFD#13).toNat % 4 ≠ 0 ∧
    (pending (.read 4 .byte)).input = .read 4 .byte :: [] ∧ AccessSize.byte ≠ .word ∧
    (pending (.read 2 .word)).input = .read 2 .word :: [] ∧ (2#13).toNat % 4 ≠ 0 := by decide

theorem witness_OnlyBadAccesses_good :
    (∀ off size v rest, (pending (.write 0x1FFC .word 1)).input = .write off size v :: rest → size = .word ∧ off.toNat % 4 = 0) ∧
    (∀ off size rest, (pending (.write 0x1FFC .word 1)).input = .read off size :: rest → size = .word ∧ off.toNat % 4 = 0) := by
  constructor
  · intro off size v rest h
    simp only [pending, List.cons.injEq, HostInput.write.injEq] at h
    obtain ⟨⟨rfl, rfl, -⟩, -⟩ := h
    decide
  · intro off size rest h
    simp [pending] at h

/-- The first and the last unmapped word of each hole. -/
theorem witness_Unmapped :
    (∀ off : BitVec 13, (pending (.read off .word)).input = .read off .word :: []) ∧
    ∀ off ∈ [0x30#13, 0x3C#13, 0x68#13, 0x7C#13, 0xAC#13, 0xBC#13, 0xE8#13, 0xFC#13, 0x128#13, 0x13C#13, 0x160#13, 0x7FC#13,
        0xDA0#13, 0xFFC#13, 0x15C0#13, 0x1FFC#13], off.toNat % 4 = 0 ∧ UnmappedOffset off.toNat := by
  refine ⟨fun _ => rfl, ?_⟩
  simp [UnmappedOffset]

/-- The first and the last read-only word of each range. -/
theorem witness_ReadOnly :
    (∀ off : BitVec 13, (pending (.write off .word 1)).input = .write off .word 1 :: []) ∧
    ∀ off ∈ [0x04#13, 0x24#13, 0x80#13, 0xA8#13, 0xC0#13, 0xE4#13, 0x100#13, 0x124#13, 0x140#13, 0x15C#13],
      off.toNat % 4 = 0 ∧ ReadOnlyOffset off.toNat := by
  refine ⟨fun _ => rfl, ?_⟩
  simp [ReadOnlyOffset]

/-- A mapped register, the last word of the last buffer, and the last word of the window. -/
theorem witness_word_read :
    (∀ off : BitVec 13, (pending (.read off .word)).input = .read off .word :: []) ∧
    ∀ off ∈ [0x00#13, 0x20#13, 0x15BC#13, 0x1FFC#13], off.toNat % 4 = 0 :=
  ⟨fun _ => rfl, by simp⟩

theorem witness_SingleWordRegisters :
    (List.replicate 65536 (exEntry 101 0 0)).length ≤ 65536 ∧ State.reset.inflight.length ≤ 65536 :=
  ⟨(List.length_replicate).le, Nat.zero_le _⟩

theorem witness_LengthRegisters :
    (pending (.write 0x28 .word 1440)).input = .write 0x28 .word 1440 :: [] ∧
    (pending (.write 0x2C .word 0x80000000#32)).input = .write 0x2C .word 0x80000000#32 :: [] := ⟨rfl, rfl⟩

/-- The last word of each buffer, and the first and last word of the two writable ones. -/
theorem witness_ByteBuffers :
    (4 * 7 < bufferLen .pktOut ∧ 4 * 359 < bufferLen .txPayload ∧ 4 * 367 < bufferLen .rxBuf) ∧
    (∀ off : BitVec 13, (pending (.write off .word 1)).input = .write off .word 1 :: []) ∧
    (∀ off ∈ [0x800#13, 0xD9C#13], off.toNat % 4 = 0 ∧ 0x800 ≤ off.toNat ∧ off.toNat < 0xDA0) ∧
    (∀ off ∈ [0x1000#13, 0x15BC#13], off.toNat % 4 = 0 ∧ 0x1000 ≤ off.toNat ∧ off.toNat < 0x15C0) :=
  ⟨by decide, fun _ => rfl, by simp, by simp⟩

theorem witness_HeaderBanks :
    (0x100, replyHeader 0x62 100 0 7200) ∈
      [(0x40, savedState.hdrIn), (0x80, savedState.hdrOut), (0xC0, savedState.lastHeaderTemplate),
       (0x100, savedState.savedHeaderForRevive)] := by decide

/-- A SID word, the last full word, and the three words of fewer bits. -/
theorem witness_HdrIn :
    (∀ off : BitVec 13, (pending (.write off .word 0xFFFFFFFF#32)).input = .write off .word 0xFFFFFFFF#32 :: []) ∧
    ∀ off ∈ [0x40#13, 0x58#13, 0x5C#13, 0x60#13, 0x64#13], off.toNat % 4 = 0 ∧ 0x40 ≤ off.toNat ∧ off.toNat < 0x68 :=
  ⟨fun _ => rfl, by simp⟩

theorem witness_Loads : (List.replicate 1472 (0 : Byte)).length ≤ 1472 ∧ (List.replicate 1440 (0 : Byte)).length ≤ 1440 :=
  ⟨List.length_replicate.le, List.length_replicate.le⟩

theorem witness_UnpackReads :
    (List.replicate 31 (0 : Byte)).length < 32 ∧ 32 ≤ (packHeader headerC1).length := by decide

theorem witness_CodecRoundTrips : unpackBytes (packHeader headerC1 ++ [0xEE]) = some (headerC1, [0xEE]) := by decide

/-- The four cases of RX_LEN at the ends of their ranges. -/
theorem witness_rx_cases :
    RxTooLong { State.reset with rxLen := 1473 } ∧ RxTooLong { State.reset with rxLen := 2047 } ∧
    RxShort { State.reset with rxLen := 31 } ∧ RxShort State.reset ∧
    RxDecodes { State.reset with rxLen := 32 } ∧ RxDecodes { State.reset with rxLen := 1472 } ∧
    (presentNothing State.reset).rxNoDgram = true := by
  unfold RxTooLong RxShort RxDecodes; decide

theorem witness_ConnectTx : State.reset.hsState = .disconnected ∧ (connectedState 0).hsState ≠ .disconnected := by decide

theorem witness_ConnectRx :
    ¬ (State.reset.hsState = .connecting ∧ State.reset.pendingKind = .connect) ∧
    connectingState.hsState = .connecting ∧ connectingState.pendingKind = .connect ∧
    RxTooLong { connectingState with rxLen := 1473 } ∧ (presentNothing connectingState).rxNoDgram = true ∧
    RxShort { connectingState with rxLen := 31 } := by
  unfold RxTooLong RxShort; decide

theorem witness_ConnectRx_accepted :
    RxDecodes (presentReply 0x02 100 0 7200 connectingState) ∧
    (rxHeader (presentReply 0x02 100 0 7200 connectingState)).sf.getLsbD 1 = true ∧
    (rxHeader (presentReply 0x02 100 0 7200 connectingState)).ack = (presentReply 0x02 100 0 7200 connectingState).pendingSeq := by
  unfold RxDecodes; decide

theorem witness_ConnectRx_rejected :
    RxDecodes (presentReply 0x02 100 1 7200 connectingState) ∧
    ¬ ((rxHeader (presentReply 0x02 100 1 7200 connectingState)).sf.getLsbD 1 = true ∧
      (rxHeader (presentReply 0x02 100 1 7200 connectingState)).ack = (presentReply 0x02 100 1 7200 connectingState).pendingSeq) ∧
    ¬ ((rxHeader (presentReply 0x04 100 0 7200 connectingState)).sf.getLsbD 1 = true) := by
  unfold RxDecodes; decide

theorem witness_DisconnectTx : (connectedState 0).hsState = .connected ∧ State.reset.hsState ≠ .connected := by decide

theorem witness_DisconnectRx :
    State.reset.hsState ≠ .disconnecting ∧ disconnectingState.hsState = .disconnecting ∧
    RxTooLong { disconnectingState with rxLen := 1473 } ∧
    RxDecodes (presentReply 0x04 7 0 0 disconnectingState) ∧
    (rxHeader (presentReply 0x04 7 0 0 disconnectingState)).sf.getLsbD 2 = true := by
  unfold RxTooLong RxDecodes; decide

theorem witness_DisconnectRx_failed_attempts :
    (presentNothing disconnectingState).rxNoDgram = true ∧ (presentNothing disconnectingState).discAttempts = 0 ∧
    RxShort { disconnectingState with rxLen := 31, discAttempts := 1 } ∧
    RxDecodes (presentReply 0x02 7 0 0 { disconnectingState with discAttempts := 2 }) ∧
    (rxHeader (presentReply 0x02 7 0 0 { disconnectingState with discAttempts := 2 })).sf.getLsbD 2 = false := by
  unfold RxShort RxDecodes; decide

theorem witness_ReviveTx :
    State.reset.hasSavedSession = false ∧
    savedState.hasSavedSession = true ∧ revivingState.hsState ≠ .disconnected ∧ savedState.hsState = .disconnected ∧
    1440 < ({ savedState with txLen := 1441 } : State).txLen.toNat ∧
    ({ savedState with txLen := 1440 } : State).txLen.toNat ≤ 1440 := by decide

theorem witness_ReviveRx :
    ¬ (connectingState.hsState = .connecting ∧ connectingState.pendingKind = .revive) ∧
    revivingState.hsState = .connecting ∧ revivingState.pendingKind = .revive ∧
    RxTooLong { revivingState with rxLen := 1473 } ∧ (presentNothing revivingState).rxNoDgram = true ∧
    RxShort { revivingState with rxLen := 31 } := by
  unfold RxTooLong RxShort; decide

theorem witness_ReviveRx_replies :
    RxDecodes (presentReply 0x06 500 0 2880 revivingState) ∧
    (rxHeader (presentReply 0x06 500 0 2880 revivingState)).sf.getLsbD 1 = true ∧
    RxDecodes (presentReply 0x04 500 0 2880 revivingState) ∧
    (rxHeader (presentReply 0x04 500 0 2880 revivingState)).sf.getLsbD 1 = false := by
  unfold RxDecodes; decide

theorem witness_ThreeSilentAttempts :
    (presentNothing disconnectingState).hsState = .disconnecting ∧ (presentNothing disconnectingState).discAttempts = 0 ∧
    (presentNothing disconnectingState).rxNoDgram = true := by decide

theorem witness_DataTx_refused :
    State.reset.hsState ≠ .connected ∧ (connectedState 0).hsState = .connected ∧
    1440 < ({ connectedState 100 with txLen := 1441 } : State).txLen.toNat ∧
    (0 < ({ connectedState 100 with txLen := 101 } : State).txLen.toNat ∧
      ({ connectedState 100 with txLen := 101 } : State).txLen.toNat ≤ 1440 ∧
      ({ connectedState 100 with txLen := 101 } : State).peerWindow.toNat
        < ({ connectedState 100 with txLen := 101 } : State).bytesInFlight.toNat
          + ({ connectedState 100 with txLen := 101 } : State).txLen.toNat) ∧
    Config.params.nSlots ≤ (List.replicate Config.params.nSlots (exEntry 101 0 0)).length := by
  refine ⟨by decide, by decide, by decide, by decide, by simp⟩

/-- An admitted fragment, whatever `N_SLOTS` is: one slot is always free in an empty table. -/
theorem witness_DataTx_admitted :
    (connectedState 0).hsState = .connected ∧ (connectedState 0).txLen.toNat ≤ 1440 ∧
    (connectedState 0).bytesInFlight.toNat + (connectedState 0).txLen.toNat ≤ (connectedState 0).peerWindow.toNat ∧
    (connectedState 0).inflight.length < Config.params.nSlots := by
  refine ⟨rfl, by decide, by decide, ?_⟩
  simp [connectedState, State.reset, Config.params]

/-- An empty fragment over a shrunk window, whatever `N_SLOTS` is. -/
theorem witness_EmptyFragment :
    ({ connectedState 0 with bytesInFlight := 1 } : State).hsState = .connected ∧
    ({ connectedState 0 with bytesInFlight := 1 } : State).txLen = 0 ∧
    ({ connectedState 0 with bytesInFlight := 1 } : State).peerWindow.toNat
      < ({ connectedState 0 with bytesInFlight := 1 } : State).bytesInFlight.toNat ∧
    ({ connectedState 0 with bytesInFlight := 1 } : State).inflight.length < Config.params.nSlots := by
  refine ⟨rfl, rfl, by decide, ?_⟩
  simp [connectedState, State.reset, Config.params]

/-- Both readings of log entry 14: one byte in flight over a window that has shrunk to nothing. -/
theorem test_empty_fragment_over_window :
    (dataTx exParams 0 2 0 { inflightState [exEntry 101 0 0] with peerWindow := 0 }).result = 0x00000007#32 ∧
    (dataTx { exParams with emptyOverWindow := true } 0 2 0
      { inflightState [exEntry 101 0 0] with peerWindow := 0 }).inflight.map Entry.len = [1, 0] := by decide

theorem witness_AckRx :
    State.reset.hsState ≠ .connected ∧ (connectedState 0).hsState = .connected ∧
    RxTooLong { connectedState 0 with rxLen := 1473 } ∧ (presentNothing (connectedState 0)).rxNoDgram = true ∧
    RxShort { connectedState 0 with rxLen := 31 } ∧
    RxDecodes (presentReply 0x02 7 102 100 (connectedState 0)) ∧
    (rxHeader (presentReply 0x02 7 102 100 (connectedState 0))).sf.getLsbD 2 = false ∧
    (rxHeader (presentReply 0x04 7 102 100 (connectedState 0))).sf.getLsbD 2 = true := by
  unfold RxTooLong RxShort RxDecodes; decide

/-- Entries that are and are not late, at and below the ceiling (with the vectors' parameters: the statement's own `late`, `drop`
and `resend` are the functions its hypotheses define). -/
theorem witness_Sweep :
    expired exParams 33 (exEntry 101 22 2) = true ∧ atCeiling exParams (exEntry 101 22 2) = true ∧
    atCeiling exParams (exEntry 101 22 1) = false ∧ expired exParams 32 (exEntry 101 22 1) = false := by decide

/-- The hypothesis "exec answers next" of the whole-command statements, for a command of each kind. -/
theorem witness_exec_next :
    exec .sweep State.reset = .next (sweep Config.params State.reset) ∧
    exec .connectTx State.reset = .next (connectTx Config.params State.reset) ∧
    exec (.dataTx 0 1 0) (connectedState 100) = .next (dataTx Config.params 0 1 0 (connectedState 100)) ∧
    exec .ackRx State.reset = .next (finishCode .badState State.reset) := ⟨rfl, rfl, rfl, rfl⟩

/-- A connected state sends exactly one packet on DISCONNECT_TX. -/
theorem witness_sends_one_packet :
    ∃ t d, exec .disconnectTx (connectedState 100) = .next t ∧ t.tx = (connectedState 100).tx ++ [d] :=
  ⟨_, _, rfl, rfl⟩

theorem witness_Lifetime :
    exParams.Ok ∧ exParams.rtoTicks + 1 < 2 ^ 32 ∧ (inflightState [exEntry 101 0 0]).inflight = [exEntry 101 0 0] ∧
    (exEntry 101 0 0).lastSend = (inflightState [exEntry 101 0 0]).now ∧ (exEntry 101 0 0).retries = 0 ∧
    32 < (exParams.retryCeiling + 1) * (exParams.rtoTicks + 1) ∧ (exParams.retryCeiling + 1) * (exParams.rtoTicks + 1) ≤ 33 := by
  refine ⟨⟨by decide, by decide, by decide, by decide, by decide⟩, by decide, rfl, rfl, rfl, by decide, by decide⟩

theorem witness_BytesAccounted : BytesAccounted (inflightState [exEntry 101 0 0, exEntry 102 0 0]) := by
  unfold BytesAccounted; decide

theorem witness_step_next : step State.reset = .next State.reset ∧ ∃ t, step (pending .tick) = .next t := ⟨rfl, _, rfl⟩

/-- The invariant holds of a connected state with an entry in flight, not only of the reset state. -/
theorem witness_Inv : Inv (inflightState [exEntry 101 0 0]) where
  bytes := by unfold BytesAccounted; decide
  table := by
    refine ⟨by simp [inflightState, Config.params], fun e he => ?_⟩
    obtain rfl : e = exEntry 101 0 0 := by simpa [inflightState] using he
    exact ⟨by decide, by decide, by decide, by simp [exEntry]⟩
  quiet := by unfold TableQuiet; decide
  tx := by unfold TxOk; decide
  attempts := by unfold AttemptsOk; decide
  result := by unfold ResultOk; decide
  plen := by decide
  mem := by decide

theorem witness_memory_canonical : Memory.wf stateC3.mem = true := by decide

/-- The hypotheses of the writers' statements: a port event that is neither a write of CMD nor a reset. -/
theorem witness_NextSeq :
    (pending .tick).input = .tick :: [] ∧ (∃ t, step (pending .tick) = .next t) ∧
    (∀ w, HostInput.tick ≠ .write 0 .word w) ∧ HostInput.tick ≠ .reset := by
  refine ⟨rfl, ⟨_, rfl⟩, ?_, ?_⟩
  · intro w h; cases h
  · intro h; cases h

/-- An error code of each kind. -/
theorem witness_ErrorsArePrecise :
    (after (exec .connectTx (connectedState 0))).result.extractLsb' 0 8 = 0x0A ∧
    (after (exec .ackRx (presentReply 0x02 7 0 0 (connectedState 0)))).result.extractLsb' 0 8 = 0x08 := by decide

/-- Two buffers that agree on the header and differ in the payload. -/
theorem witness_ReceivedPayload :
    ∀ a, 0x1000 ≤ a → a < 0x1020 →
      readByte { stateC3 with mem := memInsert 0x1020 0x11 stateC3.mem } a = readByte stateC3 a := by
  intro a h1 h2
  have h : memLookup a (memInsert 0x1020 0x11 stateC3.mem) = memLookup a stateC3.mem := by
    have key : ∀ k < 32, memLookup (0x1000 + k) (memInsert 0x1020 0x11 stateC3.mem) = memLookup (0x1000 + k) stateC3.mem := by
      decide
    have := key (a - 0x1000) (by omega)
    rwa [show 0x1000 + (a - 0x1000) = a by omega] at this
  simp only [readByte, h]

theorem witness_FragmentPlan : 0 < [(0x55 : Byte)].length ∧ [(0x55 : Byte)].length ≤ 368640 ∧
    (List.replicate 368640 (0x55 : Byte)).length ≤ 368640 :=
  ⟨by decide, by decide, List.length_replicate.le⟩

/-- A host whose transport answers one Connect reply. -/
def exHost : HostSys :=
  { block := State.reset
    rx := [{ elapsed := 1, what := .datagram (packHeader (replyHeader 0x02 100 0 7200)) }]
    sendErrs := []
    gaps := [3, 0, 2]
    recoverFirst := false }

def exHostParams : HostParams := { handshakeTimeout := 5, pollSlice := 1, ackWaitBudget := 11 }

theorem witness_SendMessage :
    exHost.block.hsState ≠ .connected ∧ ({ exHost with block := connectedState 0 } : HostSys).block.hsState = .connected ∧
    368640 < (List.replicate 368641 (0x55 : Byte)).length := by
  refine ⟨by decide, rfl, ?_⟩
  rw [List.length_replicate]
  decide

/-- A Disconnect whose first receive fails with a transport error. -/
theorem witness_Recovery_noted :
    ∃ g', hostOp exHostParams .disconnect { exHost with block := connectedState 100, rx := [{ elapsed := 0, what := .error }] }
      = (.failure .transport, g') :=
  ⟨(hostOp exHostParams .disconnect
      { exHost with block := connectedState 100, rx := [{ elapsed := 0, what := .error }] }).2, Prod.ext (by decide) rfl⟩

theorem witness_Recovery_due :
    ({ exHost with block := disconnectingState, recoverFirst := true } : HostSys).recoverFirst = true ∧
    ({ exHost with block := disconnectingState, recoverFirst := true } : HostSys).block.hsState = .disconnecting := by decide

/-- D51: after the transport error one attempt is used up, and the second further attempt ends the Disconnect. -/
theorem test_recovery :
    (recoverDisconnect { exHost with block := { disconnectingState with discAttempts := 1 } }).block.result = 0x00000304#32 ∧
    (recoverDisconnect { exHost with block := { disconnectingState with discAttempts := 1 } }).block.busOut
      = [0x00000209#32, 0x00000304#32] := by decide

/-- Log entry 8: a transport error on the third attempt leaves the session CONNECTED, and the recovery is one BAD_STATE. -/
theorem test_recovery_after_third_attempt :
    (hostDisconnect exHostParams { exHost with
      block := connectedState 100
      rx := [{ elapsed := 0, what := .timedOut }, { elapsed := 0, what := .timedOut }, { elapsed := 0, what := .error }] }).1
        = .failure .transport ∧
    (recoverDisconnect { exHost with block := connectedState 100 }).block.busOut = [0x0000000A#32] := by decide

/-- R205: while the final wait of a send has not returned, the disconnect after it does not start. -/
theorem test_no_cancellation :
    (hostRun exHostParams [.send [], .disconnect] { exHost with block := connectedState 0, rx := [] }).1 = [.waiting] := by decide

theorem witness_HostRun_returned :
    ∀ r ∈ (hostRun exHostParams [.connect] exHost).1, r.returned = true := by decide

/-- V-H1. -/
theorem test_empty_message_is_one_fragment : fragmentPlan 0 [] = [{ payload := [], fo := 0, mf := 0 }] := by decide

theorem witness_HostConnect_success : ∃ g', hostConnect exHostParams exHost = (.success, g') :=
  ⟨(hostConnect exHostParams exHost).2, Prod.ext (by decide) rfl⟩

/-- A reply without ACK_SETUP: HANDSHAKE_REJECTED. -/
theorem witness_HostConnect_rejected :
    (0x03 : Byte) ∈ ([0x01, 0x02, 0x03] : List Byte) ∧
    ∃ g', hostConnect exHostParams
      { exHost with rx := [{ elapsed := 1, what := .datagram (packHeader (replyHeader 0x04 100 0 7200)) }] }
        = (.failure (.code 0x03), g') :=
  ⟨by decide, (hostConnect exHostParams
      { exHost with rx := [{ elapsed := 1, what := .datagram (packHeader (replyHeader 0x04 100 0 7200)) }] }).2,
    Prod.ext (by decide) rfl⟩

end Sys2Proof.Tests
end

section
/-! The emitted packet's `seq`, what `rxDecode` answers and leaves, and which words are DISCONNECT_RX. -/

namespace Sys2Proof.Machine

open Sys2Proof

/-! ### Little-endian words inside a byte string (R19, R81) -/

/-- `rd32` at the place where a word was put in little-endian order reads the word back. -/
theorem rd32_append_le32 (front rest : List Byte) (w : Word) :
    rd32 (front ++ (le32 w ++ rest)) front.length = w := by
  have hlane (k : Nat) : byteAt (front ++ (le32 w ++ rest)) (front.length + k) = byteAt (le32 w ++ rest) k := by
    rw [byteAt, byteAt, List.getD_append_right _ _ _ _ (Nat.le_add_right _ _), Nat.add_sub_cancel_left]
  have hzero := hlane 0
  rw [Nat.add_zero] at hzero
  rw [rd32, hzero, hlane 1, hlane 2, hlane 3]
  exact laneWord_lanes w

/-- The `seq` of a packet stands at byte 20, whatever payload follows the header (R81, R110). -/
theorem rd32_seq_of_packet (h : Header) (payload : List Byte) : rd32 (packHeader h ++ payload) 20 = h.seq := by
  have key := rd32_append_le32 (h.sid.toList ++ le32 h.sf) (le32 h.ack ++ le16 h.wnd ++ [h.fid] ++ [h.fo] ++ payload) h.seq
  simpa [packHeader] using key

theorem rd32_seq_of_header (h : Header) : rd32 (packHeader h) 20 = h.seq := by
  simpa using rd32_seq_of_packet h []

@[simp] theorem mkHdr_seq (tmpl : Header) (fl : BitVec 5) (seq ack : Word) (wnd : Half) (fid fo : Byte) :
    (mkHdr tmpl fl seq ack wnd fid fo).seq = seq := rfl

/-! ### RESULT words -/

/-- With no counts, RESULT is 0 for OK alone (R221). -/
theorem resultWord_eq_zero_iff (code : ResultCode) : resultWord code 0 0 = 0x00000000#32 ↔ code = .ok := by
  cases code <;> decide

/-! ### `rxDecode` (R118) -/

/-- Only a datagram that decodes gives a header, and it is the one RX_BUF presents. -/
theorem rxResult_ok {s : State} {h : Header} {payload : List Byte} (hr : rxResult s = .ok h payload) :
    RxDecodes s ∧ h = rxHeader s := by
  rcases rx_cases s with hno | hlong | hshort | hdec
  · simp [rxResult_noDgram hno] at hr
  · simp [rxResult_tooLong hlong] at hr
  · simp [rxResult_short hshort] at hr
  · rw [rxResult_decodes hdec] at hr
    exact ⟨hdec, (RxResult.ok.inj hr).1.symm⟩

/-- Nothing is written when no header decoded (D46). -/
theorem rxDecoded_of_no_header {s : State} (hr : ∀ h payload, rxResult s ≠ .ok h payload) : rxDecoded s = s := by
  unfold rxDecoded
  split
  · next h payload hok => exact absurd hok (hr h payload)
  · rfl

/-- HDR_OUT and HDR_OUT_PLEN are all that `rxDecode` can write. -/
theorem rxDecoded_cases (s : State) : rxDecoded s = s ∨ rxDecoded s = withDecoded s := by
  by_cases hdec : RxDecodes s
  · exact .inr (rxDecoded_decodes hdec)
  · exact .inl (rxDecoded_of_no_header fun _ _ hok => hdec (rxResult_ok hok).1)

@[simp] theorem rxDecoded_hsState (s : State) : (rxDecoded s).hsState = s.hsState := by
  rcases rxDecoded_cases s with h | h <;> simp [h]
@[simp] theorem rxDecoded_discAttempts (s : State) : (rxDecoded s).discAttempts = s.discAttempts := by
  rcases rxDecoded_cases s with h | h <;> simp [h]
@[simp] theorem rxDecoded_nextSeq (s : State) : (rxDecoded s).nextSeq = s.nextSeq := by
  rcases rxDecoded_cases s with h | h <;> simp [h]
@[simp] theorem rxDecoded_savedHeaderForRevive (s : State) :
    (rxDecoded s).savedHeaderForRevive = s.savedHeaderForRevive := by
  rcases rxDecoded_cases s with h | h <;> simp [h]
@[simp] theorem rxDecoded_hasSavedSession (s : State) : (rxDecoded s).hasSavedSession = s.hasSavedSession := by
  rcases rxDecoded_cases s with h | h <;> simp [h]
@[simp] theorem rxDecoded_now (s : State) : (rxDecoded s).now = s.now := by
  rcases rxDecoded_cases s with h | h <;> simp [h]
@[simp] theorem rxDecoded_tx (s : State) : (rxDecoded s).tx = s.tx := by
  rcases rxDecoded_cases s with h | h <;> simp [h]

/-! ### The decoder and the register map -/

/-- A word decodes by a row of the opcode map that it matches (R88). -/
theorem decode_ok_row {w : Word} {i : Instr} (h : decode w = .ok i) :
    ∃ r ∈ opcodeRows, w &&& r.mask = r.value ∧ r.build w = i := by
  unfold decode at h
  split at h
  · next r hr =>
    exact ⟨r, List.mem_of_find?_eq_some hr, by simpa using List.find?_some hr, by simpa using h⟩
  · cases h

/-- DISCONNECT_RX has one command word (R88). -/
theorem decode_disconnectRx_word {w : Word} (h : decode w = .ok .disconnectRx) : w = 0x00000013#32 := by
  obtain ⟨r, hr, hmatch, hbuild⟩ := decode_ok_row h
  simp only [opcodeRows, List.mem_cons, List.not_mem_nil, or_false] at hr
  rcases hr with rfl | rfl | rfl | rfl | rfl | rfl | rfl | rfl | rfl | rfl | rfl
  case inr.inr.inr.inr.inr.inl =>
    have hones : w &&& 0xFFFFFFFF#32 = w := BitVec.and_allOnes
    exact hones ▸ hmatch
  all_goals cases hbuild

/-! ### Stores (R51, R60): a bus write reaches the operand registers and buffers only -/

@[simp] theorem writeMapped_hsState (s : State) (v : Word) (r : MappedWord) : (writeMapped s v r).hsState = s.hsState := by
  unfold writeMapped; split <;> rfl
@[simp] theorem writeMapped_nextSeq (s : State) (v : Word) (r : MappedWord) : (writeMapped s v r).nextSeq = s.nextSeq := by
  unfold writeMapped; split <;> rfl
@[simp] theorem writeMapped_savedHeaderForRevive (s : State) (v : Word) (r : MappedWord) :
    (writeMapped s v r).savedHeaderForRevive = s.savedHeaderForRevive := by
  unfold writeMapped; split <;> rfl
@[simp] theorem writeMapped_hasSavedSession (s : State) (v : Word) (r : MappedWord) :
    (writeMapped s v r).hasSavedSession = s.hasSavedSession := by
  unfold writeMapped; split <;> rfl
@[simp] theorem writeMapped_now (s : State) (v : Word) (r : MappedWord) : (writeMapped s v r).now = s.now := by
  unfold writeMapped; split <;> rfl

end Sys2Proof.Machine
end

section
/-! All that a command and a step can do, said once as a relation each. -/

namespace Sys2Proof.Machine

open Sys2Proof

/-- The codes with which a command finishes at once, nothing but RESULT written (R115, R131 to R136, R163, R166). -/
def rejectCodes : Instr → List ResultCode
  | .pack | .sweep => []
  | .unpack => [.malformedPacket, .lengthError]
  | .connectTx | .disconnectTx => [.badState]
  | .connectRx | .disconnectRx | .reviveRx => [.badState, .lengthError]
  | .reviveTx => [.noSessionToRevive, .badState, .lengthError]
  | .dataTx _ _ _ => [.badState, .lengthError, .windowExhausted]
  | .ackRx => [.badState, .lengthError, .malformedPacket]

theorem ok_notMem_rejectCodes (i : Instr) : .ok ∉ rejectCodes i := by
  cases i <;> simp [rejectCodes]

/-- The codes with which a handshake reply ends the handshake in DISCONNECTED (R132, R136); no other command has any. -/
def handshakeFailCodes : Instr → List ResultCode
  | .connectRx => [.handshakeTimeout, .malformedPacket, .handshakeRejected]
  | .reviveRx => [.reviveRejected, .malformedPacket]
  | _ => []

theorem ok_notMem_handshakeFailCodes (i : Instr) : .ok ∉ handshakeFailCodes i := by
  cases i <;> simp [handshakeFailCodes]

/-- `CommandEffect s i t`: a way in which command `i` takes `s` to `t` (R111, R115, R131 to R136, R163, R166, R169). A command that
finishes with an error code and touches nothing but RESULT is `rejected`, whichever command it is; the two handshake replies
share their cases. -/
inductive CommandEffect (s : State) : Instr → State → Prop
  | rejected (i : Instr) (code : ResultCode) (hcode : code ∈ rejectCodes i) : CommandEffect s i (finish code 0 0 s)
  | packed : CommandEffect s .pack
      (finish .ok 0 0 { s with mem := memInsertList (bufferBase .pktOut) (packHeader s.hdrIn) s.mem })
  | unpacked (hrx : RxDecodes s) : CommandEffect s .unpack (finish .ok 0 0 (withDecoded s))
  | connectSent (hst : s.hsState = .disconnected) : CommandEffect s .connectTx
      (finish .ok 0 0
        { emit (packHeader (mkHdr Header.zero connectFlags s.nextSeq 0 Config.params.localWindow 0 0)) s with
          nextSeq := s.nextSeq + 1
          pendingSeq := s.nextSeq
          pendingKind := .connect
          hsState := .connecting })
  | teardownSent (hst : s.hsState = .connected) : CommandEffect s .disconnectTx
      (finish .ok 0 0
        { emit (packHeader (mkHdr s.lastHeaderTemplate teardownFlags s.nextSeq s.lastPeerSeq 0 0 0)) s with
          nextSeq := s.nextSeq + 1
          discAttempts := 0
          hsState := .disconnecting })
  | reviveSent (hsaved : s.hasSavedSession = true) (hst : s.hsState = .disconnected) (hlen : txTooLong s = false) :
      CommandEffect s .reviveTx
        (finish .ok 0 0
          { emit (packHeader (mkHdr s.savedHeaderForRevive reviveFlags s.nextSeq s.lastPeerSeq Config.params.localWindow 0 0)
              ++ txPayloadBytes s) s with
            nextSeq := s.nextSeq + 1
            pendingKind := .revive
            hsState := .connecting })
  | dataSent (mf : BitVec 1) (fid fo : Byte) (hst : s.hsState = .connected) (hlen : txTooLong s = false)
      (hroom : dataAdmits Config.params s (txLength s) = true) : CommandEffect s (.dataTx mf fid fo)
        (finish .ok 0 0
          { emit (packHeader (dataHeader Config.params mf fid fo s) ++ txPayloadBytes s) s with
            inflight := s.inflight ++
              [newEntry (packHeader (dataHeader Config.params mf fid fo s) ++ txPayloadBytes s) s.nextSeq (txLength s) s.now]
            bytesInFlight := s.bytesInFlight + BitVec.ofNat 16 (txLength s)
            nextSeq := s.nextSeq + 1 })
  | handshakeFailed (i : Instr) (code : ResultCode) (hcode : code ∈ handshakeFailCodes i) (hst : s.hsState = .connecting) :
      CommandEffect s i (finish code 0 0 { rxDecoded s with hsState := .disconnected })
  | handshakeDone (i : Instr) (hi : i = .connectRx ∨ i = .reviveRx) (hst : s.hsState = .connecting) (hrx : RxDecodes s) :
      CommandEffect s i (finish .ok 0 0 (acceptReply (rxHeader s) (withDecoded s)))
  | disconnectPending (hst : s.hsState = .disconnecting) (hn : (s.discAttempts + 1).toNat ≠ discAttemptLimit) :
      CommandEffect s .disconnectRx
        (finish .disconnectPending (s.discAttempts + 1).toNat 0 { rxDecoded s with discAttempts := s.discAttempts + 1 })
  | disconnectGivenUp (hst : s.hsState = .disconnecting) (hn : (s.discAttempts + 1).toNat = discAttemptLimit) :
      CommandEffect s .disconnectRx
        (finish .disconnectNotAcknowledged discAttemptLimit 0 { rxDecoded s with discAttempts := 0, hsState := .connected })
  | disconnectDone (hst : s.hsState = .disconnecting) (hrx : RxDecodes s) (hack : hasAck (rxHeader s) = true) :
      CommandEffect s .disconnectRx (finish .ok 0 0 (completeDisconnect (withDecoded s)))
  | notAck (hst : s.hsState = .connected) (hrx : RxDecodes s) (hack : hasAck (rxHeader s) = false) :
      CommandEffect s .ackRx (finish .notAck 0 0 (withDecoded s))
  | acked (hst : s.hsState = .connected) (hrx : RxDecodes s) (hack : hasAck (rxHeader s) = true) :
      CommandEffect s .ackRx
        (finish .ok (retiredCount (rxHeader s).ack s) 0
          (refreshPeer (rxHeader s) (retire (rxHeader s).ack (withDecoded s))))
  | swept : CommandEffect s .sweep (sweep Config.params s)

section
variable {s t : State}

theorem unpack_effect (h : execUnpack s = .next t) : CommandEffect s .unpack t := by
  obtain rfl := Host.Outcome.next.inj h
  split
  · exact .rejected _ .malformedPacket (by simp [rejectCodes])
  · exact .rejected _ .lengthError (by simp [rejectCodes])
  · exact .rejected _ .malformedPacket (by simp [rejectCodes])
  · next hr =>
    obtain ⟨hrx, -⟩ := rxResult_ok hr
    rw [rxDecoded_decodes hrx]
    exact .unpacked hrx

theorem connectTx_effect (h : execConnectTx s = .next t) : CommandEffect s .connectTx t := by
  obtain rfl := Host.Outcome.next.inj h
  unfold connectTx
  split
  · next hst => exact .connectSent hst
  · exact .rejected _ .badState (by simp [rejectCodes])

theorem disconnectTx_effect (h : execDisconnectTx s = .next t) : CommandEffect s .disconnectTx t := by
  obtain rfl := Host.Outcome.next.inj h
  split
  · next hst => exact .teardownSent hst
  · exact .rejected _ .badState (by simp [rejectCodes])

theorem reviveTx_effect (h : execReviveTx s = .next t) : CommandEffect s .reviveTx t := by
  obtain rfl := Host.Outcome.next.inj h
  unfold reviveTx
  split
  · exact .rejected _ .noSessionToRevive (by simp [rejectCodes])
  · next hsaved =>
    split
    · next hst =>
      split
      · exact .rejected _ .lengthError (by simp [rejectCodes])
      · next hlen => exact .reviveSent (by simpa using hsaved) hst (by simpa using hlen)
    · exact .rejected _ .badState (by simp [rejectCodes])

theorem dataTx_effect {mf : BitVec 1} {fid fo : Byte} (h : execDataTx mf fid fo s = .next t) :
    CommandEffect s (.dataTx mf fid fo) t := by
  obtain rfl := Host.Outcome.next.inj h
  unfold dataTx
  split
  · next hst =>
    split
    · exact .rejected _ .lengthError (by simp [rejectCodes])
    · next hlen =>
      split
      · next hroom => exact .dataSent mf fid fo hst (by simpa using hlen) hroom
      · exact .rejected _ .windowExhausted (by simp [rejectCodes])
  · exact .rejected _ .badState (by simp [rejectCodes])

/-- A handshake reply that brought no header leaves HDR_OUT alone. -/
theorem handshakeFailed_of_no_header {i : Instr} {code : ResultCode} (hcode : code ∈ handshakeFailCodes i)
    (hst : s.hsState = .connecting) (hr : ∀ h payload, rxResult s ≠ .ok h payload) :
    CommandEffect s i (finish code 0 0 { s with hsState := .disconnected }) := by
  have hfail := CommandEffect.handshakeFailed i code hcode hst
  rwa [rxDecoded_of_no_header hr] at hfail

theorem handshakeDone_of_header {i : Instr} {h : Header} {payload : List Byte} (hi : i = .connectRx ∨ i = .reviveRx)
    (hst : s.hsState = .connecting) (hr : rxResult s = .ok h payload) :
    CommandEffect s i (finish .ok 0 0 (acceptReply h (rxDecoded s))) := by
  obtain ⟨hrx, rfl⟩ := rxResult_ok hr
  rw [rxDecoded_decodes hrx]
  exact .handshakeDone i hi hst hrx

theorem connectRx_effect (h : execConnectRx s = .next t) : CommandEffect s .connectRx t := by
  obtain rfl := Host.Outcome.next.inj h
  split
  · next hst =>
    split
    · exact .rejected _ .lengthError (by simp [rejectCodes])
    · next hr => exact handshakeFailed_of_no_header (by simp [handshakeFailCodes]) hst.1 (by simp [hr])
    · next hr => exact handshakeFailed_of_no_header (by simp [handshakeFailCodes]) hst.1 (by simp [hr])
    · next hr =>
      split
      · exact handshakeDone_of_header (.inl rfl) hst.1 hr
      · exact .handshakeFailed _ .handshakeRejected (by simp [handshakeFailCodes]) hst.1
  · exact .rejected _ .badState (by simp [rejectCodes])

theorem reviveRx_effect (h : execReviveRx s = .next t) : CommandEffect s .reviveRx t := by
  obtain rfl := Host.Outcome.next.inj h
  split
  · next hst =>
    split
    · exact .rejected _ .lengthError (by simp [rejectCodes])
    · next hr => exact handshakeFailed_of_no_header (by simp [handshakeFailCodes]) hst.1 (by simp [hr])
    · next hr => exact handshakeFailed_of_no_header (by simp [handshakeFailCodes]) hst.1 (by simp [hr])
    · next hr =>
      split
      · exact handshakeDone_of_header (.inr rfl) hst.1 hr
      · exact .handshakeFailed _ .reviveRejected (by simp [handshakeFailCodes]) hst.1
  · exact .rejected _ .badState (by simp [rejectCodes])

/-- A failed attempt is the third or leaves the Disconnect pending (R134). -/
theorem failDisconnectAttempt_effect (hst : s.hsState = .disconnecting) :
    CommandEffect s .disconnectRx (failDisconnectAttempt (rxDecoded s)) := by
  unfold failDisconnectAttempt
  simp only [rxDecoded_discAttempts]
  split
  · next hn => exact .disconnectGivenUp hst hn
  · next hn => exact .disconnectPending hst hn

theorem failDisconnectAttempt_of_no_header (hst : s.hsState = .disconnecting)
    (hr : ∀ h payload, rxResult s ≠ .ok h payload) : CommandEffect s .disconnectRx (failDisconnectAttempt s) := by
  have hfail := failDisconnectAttempt_effect hst
  rwa [rxDecoded_of_no_header hr] at hfail

theorem disconnectRx_effect (h : execDisconnectRx s = .next t) : CommandEffect s .disconnectRx t := by
  obtain rfl := Host.Outcome.next.inj h
  split
  · next hst =>
    split
    · exact .rejected _ .lengthError (by simp [rejectCodes])
    · next hr => exact failDisconnectAttempt_of_no_header hst (by simp [hr])
    · next hr => exact failDisconnectAttempt_of_no_header hst (by simp [hr])
    · next hr =>
      obtain ⟨hrx, rfl⟩ := rxResult_ok hr
      split
      · next hack =>
        rw [rxDecoded_decodes hrx]
        exact .disconnectDone hst hrx hack
      · exact failDisconnectAttempt_effect hst
  · exact .rejected _ .badState (by simp [rejectCodes])

theorem ackRx_effect (h : execAckRx s = .next t) : CommandEffect s .ackRx t := by
  obtain rfl := Host.Outcome.next.inj h
  split
  · next hst =>
    split
    · exact .rejected _ .lengthError (by simp [rejectCodes])
    · exact .rejected _ .malformedPacket (by simp [rejectCodes])
    · exact .rejected _ .malformedPacket (by simp [rejectCodes])
    · next hr =>
      obtain ⟨hrx, rfl⟩ := rxResult_ok hr
      rw [rxDecoded_decodes hrx]
      split
      · next hack => exact .acked hst hrx hack
      · next hack => exact .notAck hst hrx (by simpa using hack)
  · exact .rejected _ .badState (by simp [rejectCodes])

/-- All that a command can do. -/
theorem exec_effect {i : Instr} (h : exec i s = .next t) : CommandEffect s i t := by
  cases i with
  | pack => obtain rfl := Host.Outcome.next.inj h; exact .packed
  | unpack => exact unpack_effect h
  | connectTx => exact connectTx_effect h
  | connectRx => exact connectRx_effect h
  | disconnectTx => exact disconnectTx_effect h
  | disconnectRx => exact disconnectRx_effect h
  | reviveTx => exact reviveTx_effect h
  | reviveRx => exact reviveRx_effect h
  | dataTx mf fid fo => exact dataTx_effect h
  | ackRx => exact ackRx_effect h
  | sweep => obtain rfl := Host.Outcome.next.inj h; exact .swept

end

/-- `StepEffect s t`: a way in which one step takes `s` to `t`, by the port event it serves (R52, R53, R60, R89, R175, R250). -/
inductive StepEffect (s : State) : State → Prop
  | idle (hin : s.input = []) : StepEffect s s
  | tick (rest : List HostInput) (hin : s.input = .tick :: rest) : StepEffect s (tickPulse { s with input := rest })
  | reset (rest : List HostInput) (hin : s.input = .reset :: rest) : StepEffect s (resetPulse { s with input := rest })
  | read (rest : List HostInput) (off : BitVec 13) (hin : s.input = .read off .word :: rest) :
      StepEffect s { s with input := rest, busOut := s.busOut ++ [busRead off.toNat { s with input := rest }] }
  | command (rest : List HostInput) (w : Word) (i : Instr) (t : State) (hin : s.input = .write 0 .word w :: rest)
      (hdec : decode w = .ok i) (hexec : exec i { s with input := rest, cmd := w } = .next t) : StepEffect s t
  | illegal (rest : List HostInput) (w : Word) (e : DecodeError) (hin : s.input = .write 0 .word w :: rest)
      (hdec : decode w = .error e) : StepEffect s (finish .illegalCommand 0 0 { s with input := rest, cmd := w })
  | store (rest : List HostInput) (off : BitVec 13) (w : Word) (r : MappedWord) (hin : s.input = .write off .word w :: rest)
      (hmap : mappedWord off.toNat = some r) (hcmd : r ≠ .cmd) : StepEffect s (writeMapped { s with input := rest } w r)
  | unmapped (rest : List HostInput) (off : BitVec 13) (w : Word) (hin : s.input = .write off .word w :: rest)
      (hmap : mappedWord off.toNat = none) : StepEffect s { s with input := rest }

/-- The only window offset that names CMD is 0 (R51). -/
theorem offset_zero_of_cmd {off : BitVec 13} (h : mappedWord off.toNat = some .cmd) : off = 0 :=
  BitVec.eq_of_toNat_eq (by simpa using (mappedWord_cmd_iff _).mp h)

/-- All that a step can do. -/
theorem step_effect {s t : State} (h : step s = .next t) : StepEffect s t := by
  obtain ⟨hin, rfl⟩ | ⟨ev, rest, hin, hserve⟩ := step_cases h
  · exact .idle hin
  · rcases serve_cases hserve with
      ⟨rfl, rfl⟩ | ⟨rfl, rfl⟩ | ⟨off, rfl, -, rfl⟩ |
      ⟨off, w, rfl, -, ⟨hmap, i, hdec, hexec⟩ | ⟨hmap, ⟨e, hdec⟩, rfl⟩ | ⟨r, hmap, hcmd, rfl⟩ | ⟨hmap, rfl⟩⟩
    · exact .tick rest hin
    · exact .reset rest hin
    · exact .read rest off hin
    · obtain rfl := offset_zero_of_cmd hmap
      exact .command rest w i t hin hdec hexec
    · obtain rfl := offset_zero_of_cmd hmap
      exact .illegal rest w e hin hdec
    · exact .store rest off w r hin hmap hcmd
    · exact .unmapped rest off w hin hmap

end Sys2Proof.Machine
end

section
/-! Who writes `now`, the saved session and `nextSeq` (10_state.md R35, R31, R26). -/

namespace Sys2Proof.Machine

open Sys2Proof

/-! ### `now` (R35) -/

/-- No command writes `now`. -/
theorem CommandEffect.now_eq {s t : State} {i : Instr} (h : CommandEffect s i t) : t.now = s.now := by
  cases h <;> simp

/-- The word at NOW (R51). -/
theorem busRead_now (s : State) : busRead 0x20 s = s.now := rfl

/-- Settles O46: of the ways a step can go, a tick and a reset alone reach `now`. -/
theorem nowHasTheListedWriters : Obligations.NowHasTheListedWriters := by
  intro s t h
  cases step_effect h with
  | tick rest hin => simp [hin, busRead_now]
  | reset rest hin => simp [hin, busRead_now, State.reset]
  | command rest w i t hin hdec hexec => simp [hin, busRead_now, (exec_effect hexec).now_eq]
  | idle hin | read _ _ hin | illegal _ _ _ hin | store _ _ _ _ hin | unmapped _ _ _ hin => simp [hin, busRead_now]

/-! ### The saved session (R31) -/

/-- A step leaves the saved session and does not go from DISCONNECTING to DISCONNECTED. -/
def KeepsSnapshot (s t : State) : Prop :=
  ¬ (s.hsState = .disconnecting ∧ t.hsState = .disconnected) ∧
    t.savedHeaderForRevive = s.savedHeaderForRevive ∧ t.hasSavedSession = s.hasSavedSession

/-- What is the same in both states is not written. -/
theorem KeepsSnapshot.of_eq {s t : State} (hst : t.hsState = s.hsState)
    (hsaved : t.savedHeaderForRevive = s.savedHeaderForRevive) (hhas : t.hasSavedSession = s.hasSavedSession) :
    KeepsSnapshot s t :=
  ⟨fun ⟨hfrom, hto⟩ => by simp [hst, hfrom] at hto, hsaved, hhas⟩

/-- A DISCONNECT_RX that succeeds saves the template; every other command leaves the saved session (R31, R134). -/
theorem CommandEffect.keepsSnapshot_or_saves {s t : State} {i : Instr} (h : CommandEffect s i t) :
    KeepsSnapshot s t ∨
    (i = .disconnectRx ∧ s.hsState = .disconnecting ∧ t.hsState = .disconnected ∧ t.result = 0x00000000#32 ∧
      t.savedHeaderForRevive = s.lastHeaderTemplate ∧ t.hasSavedSession = true) := by
  cases h with
  | disconnectDone hst => exact .inr ⟨rfl, hst, by simp, by simp [resultWord_eq_zero_iff], by simp, by simp⟩
  | connectSent hst => exact .inl (by simp [KeepsSnapshot, hst])
  | teardownSent hst => exact .inl (by simp [KeepsSnapshot, hst])
  | reviveSent _ hst => exact .inl (by simp [KeepsSnapshot, hst])
  | handshakeFailed _ _ _ hst => exact .inl (by simp [KeepsSnapshot, hst])
  | handshakeDone _ _ hst => exact .inl (by simp [KeepsSnapshot, hst])
  | disconnectGivenUp hst => exact .inl (by simp [KeepsSnapshot])
  | rejected | packed | unpacked | dataSent | disconnectPending | notAck | acked | swept =>
    exact .inl (.of_eq (by simp) (by simp) (by simp))

/-- Settles O45: the effect of the command a step runs, or of the port event it serves. -/
theorem snapshotHasOneWriter : Obligations.SnapshotHasOneWriter := by
  intro s t h
  cases step_effect h with
  | reset rest hin => exact .inr (.inr ⟨rest, hin, rfl, rfl⟩)
  | command rest w i t hin hdec hexec =>
    obtain hkeep | ⟨rfl, hdone⟩ := (exec_effect hexec).keepsSnapshot_or_saves
    · exact .inl hkeep
    · obtain rfl := decode_disconnectRx_word hdec
      exact .inr (.inl ⟨rest, hin, hdone⟩)
  | idle | tick | read | illegal | store | unmapped => exact .inl (KeepsSnapshot.of_eq (by simp) (by simp) (by simp))

/-! ### `nextSeq` (R26) -/

/-- The three things a command can do with `nextSeq`: leave it, give it to a new packet, take it from an accepted reply. -/
theorem CommandEffect.nextSeq_writers {s t : State} {i : Instr} (h : CommandEffect s i t) :
    ((i = .sweep ∨ t.tx = s.tx) ∧ ¬ ((i = .connectRx ∨ i = .reviveRx) ∧ t.result = 0x00000000#32) ∧ t.nextSeq = s.nextSeq) ∨
    ((i = .connectTx ∨ i = .disconnectTx ∨ i = .reviveTx ∨ ∃ mf fid fo, i = .dataTx mf fid fo) ∧
      t.nextSeq = s.nextSeq + 1 ∧ ∃ d, t.tx = s.tx ++ [d] ∧ rd32 d 20 = s.nextSeq) ∨
    ((i = .connectRx ∨ i = .reviveRx) ∧ t.result = 0x00000000#32 ∧ t.nextSeq = (rxHeader s).seq + 1) := by
  cases h with
  | connectSent => exact .inr (.inl ⟨by simp, rfl, _, rfl, rd32_seq_of_header _⟩)
  | teardownSent => exact .inr (.inl ⟨by simp, rfl, _, rfl, rd32_seq_of_header _⟩)
  | reviveSent => exact .inr (.inl ⟨by simp, rfl, _, rfl, rd32_seq_of_packet _ _⟩)
  | dataSent => exact .inr (.inl ⟨by simp, rfl, _, rfl, rd32_seq_of_packet _ _⟩)
  | handshakeDone _ hi => exact .inr (.inr ⟨hi, by simp [resultWord_eq_zero_iff], rfl⟩)
  | rejected i code hcode =>
    have hne : code ≠ .ok := ne_of_mem_of_not_mem hcode (ok_notMem_rejectCodes i)
    exact .inl ⟨.inr rfl, by simp [resultWord_eq_zero_iff, hne], rfl⟩
  | handshakeFailed i code hcode =>
    have hne : code ≠ .ok := ne_of_mem_of_not_mem hcode (ok_notMem_handshakeFailCodes i)
    exact .inl ⟨by simp, by simp [resultWord_eq_zero_iff, hne], by simp⟩
  | swept => exact .inl ⟨.inl rfl, by simp, rfl⟩
  | packed | unpacked | disconnectPending | disconnectGivenUp | disconnectDone | notAck | acked =>
    exact .inl ⟨by simp, by simp, by simp⟩

/-- Settles O44: the commands by what each does with `nextSeq`, the other steps because none of them reaches it. -/
theorem nextSeqHasTheListedWriters : Obligations.NextSeqHasTheListedWriters := by
  refine ⟨fun i s t h => (exec_effect h).nextSeq_writers, fun s t ev rest hin h hnocmd hnoreset => ?_⟩
  cases step_effect h with
  | reset rest hin' => exact absurd (List.cons.inj (hin.symm.trans hin')).1 hnoreset
  | command rest w i t hin' => exact absurd (List.cons.inj (hin.symm.trans hin')).1 (hnocmd w)
  | idle | tick | read | illegal | store | unmapped => simp

end Sys2Proof.Machine
end

section
/-! The register map range by range (R51), what a word access does (R53, R60), and the lanes of a word (R54, R56). -/

namespace Sys2Proof.Machine

open Sys2Proof

/-! ### Which word an offset names (R51) -/

theorem bankAt_eq_none {off : Nat} (h : ∀ b, ¬ (bankBase b ≤ off ∧ off < bankBase b + 40)) : bankAt off = none :=
  List.find?_eq_none.mpr fun b _ => by simpa using h b

theorem bufferAt_eq_none {off : Nat} (h : ∀ b, ¬ (bufferBase b ≤ off ∧ off < bufferBase b + bufferLen b)) :
    bufferAt off = none :=
  List.find?_eq_none.mpr fun b _ => by simpa using h b

theorem fixedWords_lookup_eq_none {off : Nat} (h : off ∉ fixedWords.map Prod.fst) : fixedWords.lookup off = none :=
  List.lookup_eq_none_iff.mpr fun p hp => by
    simpa using fun heq : off = p.1 => h (heq ▸ List.mem_map_of_mem hp)

/-- Above the header banks only a byte buffer can name a word. -/
theorem mappedWord_above_banks {off : Nat} (h : 0x128 ≤ off) :
    mappedWord off = (bufferAt off).map fun b => .buffer b ((off - bufferBase b) / 4) := by
  have hfix : fixedWords.lookup off = none := fixedWords_lookup_eq_none (by simp [fixedWords]; omega)
  have hbank : bankAt off = none := bankAt_eq_none fun b => by cases b <;> simp [bankBase] <;> omega
  rw [mappedWord, hfix, hbank]
  cases bufferAt off <;> rfl

/-- The buffers lie apart: an offset inside one is inside no other. -/
theorem bufferAt_of_mem {off : Nat} {b : BufferName} (hlo : bufferBase b ≤ off)
    (hhi : off < bufferBase b + bufferLen b) : bufferAt off = some b := by
  have hpast (c : BufferName) (hc : bufferBase c + bufferLen c ≤ bufferBase b) :
      ¬ (bufferBase c ≤ off ∧ off < bufferBase c + bufferLen c) := by omega
  have hin := And.intro hlo hhi
  unfold bufferAt
  cases b with
  | pktOut => rw [List.find?_cons_of_pos (by simpa using hin)]
  | txPayload =>
    have hpkt := hpast .pktOut (by decide)
    rw [List.find?_cons_of_neg (by simpa using hpkt), List.find?_cons_of_pos (by simpa using hin)]
  | rxBuf =>
    have hpkt := hpast .pktOut (by decide)
    have htx := hpast .txPayload (by decide)
    rw [List.find?_cons_of_neg (by simpa using hpkt), List.find?_cons_of_neg (by simpa using htx),
      List.find?_cons_of_pos (by simpa using hin)]

/-- Word `k` of a byte buffer stands at its base plus `4k`. -/
theorem mappedWord_buffer {b : BufferName} {k : Nat} (hk : 4 * k < bufferLen b) :
    mappedWord (bufferBase b + 4 * k) = some (.buffer b k) := by
  have habove : 0x128 ≤ bufferBase b + 4 * k := by cases b <;> simp only [bufferBase] <;> omega
  rw [mappedWord_above_banks habove, bufferAt_of_mem (Nat.le_add_right _ _) (Nat.add_lt_add_left hk _)]
  simp

/-- Word `k` of a header bank stands at its base plus `4k`. -/
theorem mappedWord_bank (b : BankName) {k : Nat} (hk : k < 10) :
    mappedWord (bankBase b + 4 * k) = some (.bank b k) := by
  revert k
  cases b <;> decide

/-- An aligned offset inside a byte buffer is the place of one of its words. -/
theorem exists_bufferWord_of_mem {off : Nat} {b : BufferName} (halign : off % 4 = 0) (hlo : bufferBase b ≤ off)
    (hhi : off < bufferBase b + bufferLen b) : ∃ k, 4 * k < bufferLen b ∧ off = bufferBase b + 4 * k := by
  have hbase : bufferBase b % 4 = 0 := by cases b <;> rfl
  exact ⟨(off - bufferBase b) / 4, by omega, by omega⟩

/-- An aligned offset inside a header bank is the place of one of its words. -/
theorem exists_bankWord_of_mem {off : Nat} {b : BankName} (halign : off % 4 = 0) (hlo : bankBase b ≤ off)
    (hhi : off < bankBase b + 40) : ∃ k < 10, off = bankBase b + 4 * k := by
  have hbase : bankBase b % 4 = 0 := by cases b <;> rfl
  exact ⟨(off - bankBase b) / 4, by omega, by omega⟩

/-- The holes of the map (R53) name no word. -/
theorem mappedWord_eq_none {off : Nat} (h : UnmappedOffset off) : mappedWord off = none := by
  unfold UnmappedOffset at h
  have hfix : fixedWords.lookup off = none := fixedWords_lookup_eq_none (by simp [fixedWords]; omega)
  have hbank : bankAt off = none := bankAt_eq_none fun b => by cases b <;> simp [bankBase] <;> omega
  have hbuf : bufferAt off = none := bufferAt_eq_none fun b => by cases b <;> simp [bufferBase, bufferLen] <;> omega
  rw [mappedWord, hfix, hbank, hbuf]

/-- The words a host write leaves as they are (R51, R53). -/
def MappedWord.readOnly : MappedWord → Bool
  | .cmd | .txLen | .rxLen | .bank .hdrIn _ | .buffer .txPayload _ | .buffer .rxBuf _ => false
  | _ => true

/-- A write of a read-only word stores nothing. -/
theorem writeMapped_of_readOnly {r : MappedWord} (hr : r.readOnly = true) (s : State) (v : Word) :
    writeMapped s v r = s := by
  match r, hr with
  | .result, _ | .status, _ | .nextSeq, _ | .lastPeerSeq, _ | .peerWindow, _ | .bytesInFlight, _ | .inflightCount, _
  | .now, _ | .pendingSeq, _ | .hdrOutPlen, _ => rfl
  | .bank .hdrOut _, _ | .bank .template _, _ | .bank .saved _, _ | .buffer .pktOut _, _ => rfl

theorem MappedWord.ne_cmd_of_readOnly {r : MappedWord} (hr : r.readOnly = true) : r ≠ .cmd := by
  rintro rfl
  cases hr

/-- The single-word registers from RESULT to PENDING_SEQ are read-only. -/
theorem fixedWord_readOnly : ∀ k < 9, ∃ r, mappedWord (4 * (k + 1)) = some r ∧ r.readOnly = true := by
  decide

/-- Each range of R51's read-only registers names read-only words. -/
theorem mappedWord_readOnly {off : Nat} (halign : off % 4 = 0) (h : ReadOnlyOffset off) :
    ∃ r, mappedWord off = some r ∧ r.readOnly = true := by
  have hbank (b : BankName) (hb : ∀ k, (MappedWord.bank b k).readOnly = true) (hlo : bankBase b ≤ off)
      (hhi : off < bankBase b + 40) : ∃ r, mappedWord off = some r ∧ r.readOnly = true := by
    obtain ⟨k, hk, rfl⟩ := exists_bankWord_of_mem halign hlo hhi
    exact ⟨_, mappedWord_bank b hk, hb k⟩
  rcases h with ⟨hlo, hhi⟩ | ⟨hlo, hhi⟩ | ⟨hlo, hhi⟩ | ⟨hlo, hhi⟩ | ⟨hlo, hhi⟩
  · obtain ⟨k, rfl⟩ : ∃ k, off = 4 * (k + 1) := ⟨off / 4 - 1, by omega⟩
    exact fixedWord_readOnly k (by omega)
  · by_cases hplen : off = 0xA8
    · exact ⟨.hdrOutPlen, hplen ▸ rfl, rfl⟩
    · exact hbank .hdrOut (fun _ => rfl) hlo (by simp only [bankBase]; omega)
  · exact hbank .template (fun _ => rfl) hlo hhi
  · exact hbank .saved (fun _ => rfl) hlo hhi
  · obtain ⟨k, hk, rfl⟩ := exists_bufferWord_of_mem (b := .pktOut) halign hlo hhi
    exact ⟨_, mappedWord_buffer hk, rfl⟩

/-! ### Word accesses (R53, R60) -/

theorem busRead_of_mapped {off : Nat} {r : MappedWord} (hmap : mappedWord off = some r) (s : State) :
    busRead off s = readMapped s r := by
  rw [busRead, hmap]

theorem busRead_of_unmapped {off : Nat} (hmap : mappedWord off = none) (s : State) : busRead off s = 0 := by
  rw [busRead, hmap]

theorem busRead_buffer {b : BufferName} {k : Nat} (hk : 4 * k < bufferLen b) (s : State) :
    busRead (bufferBase b + 4 * k) s = bufferWord s b k :=
  busRead_of_mapped (mappedWord_buffer hk) s

theorem busRead_bank (b : BankName) {k : Nat} (hk : k < 10) (s : State) :
    busRead (bankBase b + 4 * k) s = bankWord (bankHeader s b) k :=
  busRead_of_mapped (mappedWord_bank b hk) s

/-- A write of any word but CMD only stores. -/
theorem busWrite_of_store {off : Nat} {r : MappedWord} (hmap : mappedWord off = some r) (hcmd : r ≠ .cmd) (v : Word)
    (s : State) : busWrite off v s = .next (writeMapped s v r) := by
  rw [busWrite, hmap]
  cases r with
  | cmd => exact absurd rfl hcmd
  | _ => rfl

theorem busWrite_of_unmapped {off : Nat} (hmap : mappedWord off = none) (v : Word) (s : State) :
    busWrite off v s = .next s := by
  rw [busWrite, hmap]

theorem step_wordRead {s : State} {off : BitVec 13} {rest : List HostInput} (hin : s.input = .read off .word :: rest)
    (halign : off.toNat % 4 = 0) :
    step s = .next { s with input := rest, busOut := s.busOut ++ [busRead off.toNat { s with input := rest }] } := by
  have hok : accessRefusal off .word = none := (accessRefusal_none_iff _ _).mpr ⟨rfl, halign⟩
  simp only [step, hin, serve, hok]

theorem step_wordWrite {s : State} {off : BitVec 13} {v : Word} {rest : List HostInput}
    (hin : s.input = .write off .word v :: rest) (halign : off.toNat % 4 = 0) :
    step s = busWrite off.toNat v { s with input := rest } := by
  have hok : accessRefusal off .word = none := (accessRefusal_none_iff _ _).mpr ⟨rfl, halign⟩
  simp only [step, hin, serve, hok]

/-! ### Lanes (R54, R56) -/

/-- Lane `j` of a little-endian word of a byte string is its byte `o + j`. -/
theorem byteLane_rd32 (b : List Byte) (o : Nat) {j : Nat} (hj : j < 4) : byteLane (rd32 b o) j = byteAt b (o + j) := by
  obtain ⟨h0, h1, h2, h3⟩ := byteLane_laneWord (byteAt b o) (byteAt b (o + 1)) (byteAt b (o + 2)) (byteAt b (o + 3))
  match j, hj with
  | 0, _ => exact h0
  | 1, _ => exact h1
  | 2, _ => exact h2
  | 3, _ => exact h3

theorem byteAt_wordLanes (w : Word) {j : Nat} (hj : j < 4) : byteAt (wordLanes w) j = byteLane w j := by
  match j, hj with
  | 0, _ | 1, _ | 2, _ | 3, _ => rfl

theorem byteAt_readBytes (s : State) (a : Nat) {n i : Nat} (hi : i < n) :
    byteAt (readBytes s a n) i = readByte s (a + i) := by
  simp [byteAt, readBytes, List.getD_eq_getElem?_getD, hi]

/-- Lane `j` of word `k` of a byte buffer is the buffer's byte `4k + j`. -/
theorem byteLane_bufferWord (s : State) (b : BufferName) (k : Nat) {j : Nat} (hj : j < 4) :
    byteLane (bufferWord s b k) j = readByte s (bufferBase b + 4 * k + j) := by
  rw [bufferWord, byteLane_rd32 _ _ hj, Nat.zero_add, byteAt_readBytes s _ hj]

/-- Lane `k` of the word SIDj is byte `4j + k` of the session id. -/
theorem byteLane_sidWord (sid : Vector Byte 16) {j k : Nat} (hj : j < 4) (hk : k < 4) :
    byteLane (sidWord sid j) k = sid[4 * j + k]'(by omega) := by
  have hlt : 4 * j + k < 16 := by omega
  rw [sidWord, byteLane_rd32 _ _ hk]
  simp [byteAt, List.getD_eq_getElem?_getD, hlt]

theorem bankWord_sid (h : Header) {j : Nat} (hj : j < 4) : bankWord h j = sidWord h.sid j := by
  match j, hj with
  | 0, _ | 1, _ | 2, _ | 3, _ => rfl

/-- A byte after a write of consecutive bytes: inside the range the byte written there, outside it the old byte. -/
theorem readByte_insertList (s : State) (a b : Nat) (vs : List Byte) :
    readByte { s with mem := memInsertList a vs s.mem } b =
      if a ≤ b ∧ b < a + vs.length then byteAt vs (b - a) else readByte s b := by
  simp only [readByte, memLookup_insertList]
  split
  · have hlt : b - a < vs.length := by omega
    simp [byteAt, List.getD_eq_getElem?_getD, hlt]
  · rfl

/-- A store of a word lists its four lanes from the word's offset on (R54). -/
theorem writeMapped_buffer {b : BufferName} (hb : b ≠ .pktOut) (s : State) (v : Word) (k : Nat) :
    writeMapped s v (.buffer b k) = { s with mem := memInsertList (bufferBase b + 4 * k) (wordLanes v) s.mem } := by
  cases b with
  | pktOut => exact absurd rfl hb
  | txPayload | rxBuf => rfl

end Sys2Proof.Machine
end

section
/-! The register window (20_memory.md): unmapped and read-only offsets, the byte buffers, the header banks. -/

namespace Sys2Proof.Machine

open Sys2Proof

/-! ### Unmapped and read-only offsets (R53) -/

/-- Settles O12: a hole of the map names no word, and a read-only range names words a write leaves as they are. -/
theorem unmappedAndReadOnlyOffsets : Obligations.UnmappedAndReadOnlyOffsets := by
  intro s off rest halign
  refine ⟨fun hin hun => ?_, fun v hin hoff => ?_⟩
  · rw [step_wordRead hin halign, busRead_of_unmapped (mappedWord_eq_none hun)]
  · rw [step_wordWrite hin halign]
    rcases hoff with hun | hro
    · exact busWrite_of_unmapped (mappedWord_eq_none hun) v _
    · obtain ⟨r, hmap, hr⟩ := mappedWord_readOnly halign hro
      rw [busWrite_of_store hmap (MappedWord.ne_cmd_of_readOnly hr), writeMapped_of_readOnly hr]

/-! ### The byte buffers (R54) -/

/-- A word written to TX_PAYLOAD or RX_BUF puts its lanes at the event's own offset. -/
theorem step_bufferWrite {s : State} {off : BitVec 13} {v : Word} {rest : List HostInput} {b : BufferName}
    (hin : s.input = .write off .word v :: rest) (halign : off.toNat % 4 = 0) (hb : b ≠ .pktOut)
    (hlo : bufferBase b ≤ off.toNat) (hhi : off.toNat < bufferBase b + bufferLen b) :
    step s = .next { s with input := rest, mem := memInsertList off.toNat (wordLanes v) s.mem } := by
  obtain ⟨k, hk, hoff⟩ := exists_bufferWord_of_mem halign hlo hhi
  rw [step_wordWrite hin halign, hoff, busWrite_of_store (mappedWord_buffer hk) nofun, writeMapped_buffer hb]

/-- Settles O15: a read puts four bytes into lanes, a write lists four lanes, and no other byte is listed. -/
theorem byteBuffersUseLittleEndianLanes : Obligations.ByteBuffersUseLittleEndianLanes := by
  refine ⟨fun s b k j hk hj => ?_, fun s off v rest hin halign hoff => ?_⟩
  · rw [busRead_buffer hk]
    exact byteLane_bufferWord s b k hj
  · refine ⟨memInsertList off.toNat (wordLanes v) s.mem, ?_, fun j hj => ?_, fun a ha => ?_⟩
    · rcases hoff with ⟨hlo, hhi⟩ | ⟨hlo, hhi⟩
      · exact step_bufferWrite (b := .txPayload) hin halign nofun hlo hhi
      · exact step_bufferWrite (b := .rxBuf) hin halign nofun hlo hhi
    · rw [readByte_insertList, if_pos (by simp [hj]), Nat.add_sub_cancel_left, byteAt_wordLanes v hj]
      rfl
    · rw [readByte_insertList, if_neg (by simp only [wordLanes_length]; omega)]

/-! ### The header banks (R55, R56) -/

/-- The ten words of any bank present the header it holds. -/
theorem busRead_bank_presents (s : State) (b : BankName) :
    (∀ (j k : Nat) (hj : j < 4) (hk : k < 4),
      byteLane (busRead (bankBase b + 4 * j) s) k = (bankHeader s b).sid[4 * j + k]'(by omega)) ∧
    busRead (bankBase b + 0x10) s = (bankHeader s b).sf ∧ busRead (bankBase b + 0x14) s = (bankHeader s b).seq ∧
    busRead (bankBase b + 0x18) s = (bankHeader s b).ack ∧
    (busRead (bankBase b + 0x1C) s).toNat = (bankHeader s b).wnd.toNat ∧
    (busRead (bankBase b + 0x20) s).toNat = (bankHeader s b).fid.toNat ∧
    (busRead (bankBase b + 0x24) s).toNat = (bankHeader s b).fo.toNat := by
  have hword (k : Nat) (hk : k < 10) := busRead_bank b hk s
  refine ⟨fun j k hj hk => ?_, hword 4 (by decide), hword 5 (by decide), hword 6 (by decide), ?_, ?_, ?_⟩
  · rw [hword j (by omega), bankWord_sid _ hj, byteLane_sidWord _ hj hk]
  · rw [hword 7 (by decide), bankWord, BitVec.toNat_setWidth_of_le (by decide)]
  · rw [hword 8 (by decide), bankWord, BitVec.toNat_setWidth_of_le (by decide)]
  · rw [hword 9 (by decide), bankWord, BitVec.toNat_setWidth_of_le (by decide)]

/-- Settles O16: the four bases are those of the four banks. -/
theorem headerBanksPresentTheHeader : Obligations.HeaderBanksPresentTheHeader := by
  intro s base h hmem
  simp only [List.mem_cons, Prod.mk.injEq, List.not_mem_nil, or_false] at hmem
  rcases hmem with ⟨rfl, rfl⟩ | ⟨rfl, rfl⟩ | ⟨rfl, rfl⟩ | ⟨rfl, rfl⟩
  · exact busRead_bank_presents s .hdrIn
  · exact busRead_bank_presents s .hdrOut
  · exact busRead_bank_presents s .template
  · exact busRead_bank_presents s .saved

end Sys2Proof.Machine
end

section
/-! A word written to CMD (30_encoding.md): what a step does with it, and the words outside the opcode map. -/

namespace Sys2Proof.Machine

open Sys2Proof

/-- A row of the opcode map either is DATA_TX's or compares the whole word with a command's word (R88). -/
theorem opcodeRow_dataTx_or_wholeWord :
    ∀ r ∈ opcodeRows, (r.mask = 0x0000FEFF#32 ∧ r.value = 0x00000020#32) ∨
      (r.mask = BitVec.allOnes 32 ∧ ¬ IllegalWord r.value) := by
  unfold IllegalWord; decide

theorem not_illegalWord_of_row {w : Word} {r : OpcodeRow} (hr : r ∈ opcodeRows) (hmatch : w &&& r.mask = r.value) :
    ¬ IllegalWord w := by
  rcases opcodeRow_dataTx_or_wholeWord r hr with ⟨hmask, hvalue⟩ | ⟨hmask, hlegal⟩
  · rw [hmask, hvalue] at hmatch
    exact fun ⟨hnotDataTx, _⟩ => hnotDataTx hmatch
  · rw [hmask, BitVec.and_allOnes] at hmatch
    rwa [hmatch]

/-- The decoder rejects every illegal word (R89). -/
theorem decode_illegalWord {w : Word} (hill : IllegalWord w) : ∃ e, decode w = .error e := by
  cases hdec : decode w with
  | error e => exact ⟨e, rfl⟩
  | ok i =>
    obtain ⟨r, hr, hmatch, -⟩ := decode_ok_row hdec
    exact absurd hill (not_illegalWord_of_row hr hmatch)

/-- A word written to CMD is stored, and then run (R60). -/
theorem step_commandWrite {s : State} {w : Word} {rest : List HostInput} (hin : s.input = .write 0 .word w :: rest) :
    step s = runCommand w { s with input := rest, cmd := w } := by
  have hmap : mappedWord (0 : BitVec 13).toNat = some .cmd := (mappedWord_cmd_iff _).mpr rfl
  rw [step_wordWrite hin rfl, busWrite, hmap]
  rfl

theorem runCommand_of_error {w : Word} {e : DecodeError} (hdec : decode w = .error e) (s : State) :
    runCommand w s = .next (finishCode .illegalCommand s) := by
  rw [runCommand, hdec]

/-- Settles O6: no row of the opcode map matches an illegal word, so the word runs nothing but `finish`. -/
theorem illegalWordOnlyReports : Obligations.IllegalWordOnlyReports := by
  intro s w rest hin hill
  obtain ⟨e, hdec⟩ := decode_illegalWord hill
  rw [step_commandWrite hin, runCommand_of_error hdec]
  rfl

end Sys2Proof.Machine
end

section
/-! The header codec (40_codec.md): little-endian values, the header's STTL and flag bits, what a write of bytes reads back
as, and what PACK and UNPACK answer. -/

namespace Sys2Proof.Machine

open Sys2Proof

/-! ### Little-endian integers (R19, R57) -/

/-- A byte put above the bits that a word uses adds its value times its place. -/
theorem toNat_or_byte_shiftLeft {w k : Nat} {x : BitVec w} (b : Byte) (hx : x.toNat < 2 ^ k) (hk : k + 8 ≤ w) :
    (x ||| b.setWidth w <<< k).toNat = x.toNat + 2 ^ k * b.toNat := by
  have hfits : b.toNat <<< k < 2 ^ w :=
    calc b.toNat <<< k = b.toNat * 2 ^ k := Nat.shiftLeft_eq _ _
      _ < 2 ^ 8 * 2 ^ k := Nat.mul_lt_mul_of_pos_right b.isLt (Nat.two_pow_pos k)
      _ = 2 ^ (k + 8) := by rw [Nat.pow_add, Nat.mul_comm]
      _ ≤ 2 ^ w := Nat.pow_le_pow_right (by decide) hk
  rw [BitVec.toNat_or, BitVec.toNat_shiftLeft, BitVec.toNat_setWidth_of_le (by omega), Nat.mod_eq_of_lt hfits,
    Nat.or_comm, ← Nat.shiftLeft_add_eq_or_of_lt hx, Nat.shiftLeft_eq, Nat.mul_comm, Nat.add_comm]

theorem toNat_laneWord (b0 b1 b2 b3 : Byte) :
    (laneWord b0 b1 b2 b3).toNat = b0.toNat + 256 * b1.toNat + 256 ^ 2 * b2.toNat + 256 ^ 3 * b3.toNat := by
  have h0 : (b0.setWidth 32).toNat = b0.toNat := BitVec.toNat_setWidth_of_le (by decide)
  have h1 : (b0.setWidth 32 ||| b1.setWidth 32 <<< 8).toNat = _ :=
    toNat_or_byte_shiftLeft b1 (by omega) (by decide)
  have h2 : (b0.setWidth 32 ||| b1.setWidth 32 <<< 8 ||| b2.setWidth 32 <<< 16).toNat = _ :=
    toNat_or_byte_shiftLeft b2 (by omega) (by decide)
  rw [laneWord, toNat_or_byte_shiftLeft b3 (by omega) (by decide)]
  omega

theorem toNat_rd32 (b : List Byte) (o : Nat) :
    (rd32 b o).toNat = (byteAt b o).toNat + 256 * (byteAt b (o + 1)).toNat + 256 ^ 2 * (byteAt b (o + 2)).toNat
      + 256 ^ 3 * (byteAt b (o + 3)).toNat :=
  toNat_laneWord _ _ _ _

theorem toNat_rd16 (b : List Byte) (o : Nat) :
    (rd16 b o).toNat = (byteAt b o).toNat + 256 * (byteAt b (o + 1)).toNat := by
  have hlow : ((byteAt b o).setWidth 16).toNat = (byteAt b o).toNat := BitVec.toNat_setWidth_of_le (by decide)
  rw [rd16, toNat_or_byte_shiftLeft _ (by omega) (by decide)]
  omega

/-! ### Headers (R81, R112, R114) -/

theorem headerOfBytes_sid (b : List Byte) {i : Nat} (hi : i < 16) : (headerOfBytes b).sid[i] = byteAt b i := by
  simp [headerOfBytes, sidOfBytes]

/-- The `sf` word of `mkHdr`: the template's STTL bits above the given flags, nothing shared (R82, R112). -/
theorem mkHdr_sf (tmpl : Header) (fl : BitVec 5) (seq ack : Word) (wnd : Half) (fid fo : Byte) :
    (mkHdr tmpl fl seq ack wnd fid fo).sf = headerSttl tmpl ++ fl := by
  rw [BitVec.append_def]
  simp [mkHdr, headerSttl, BitVec.shiftLeftZeroExtend_eq]

theorem headerSttl_mkHdr (tmpl : Header) (fl : BitVec 5) (seq ack : Word) (wnd : Half) (fid fo : Byte) :
    headerSttl (mkHdr tmpl fl seq ack wnd fid fo) = headerSttl tmpl := by
  rw [headerSttl, mkHdr_sf]
  exact BitVec.extractLsb'_append_eq_left

theorem headerFlags_mkHdr (tmpl : Header) (fl : BitVec 5) (seq ack : Word) (wnd : Half) (fid fo : Byte) :
    headerFlags (mkHdr tmpl fl seq ack wnd fid fo) = fl := by
  rw [headerFlags, mkHdr_sf]
  exact BitVec.extractLsb'_append_eq_right

/-! ### The byte buffers (R54) -/

/-- Bytes written from an offset on are read back there. -/
theorem readBytes_insertList_same (s : State) (a : Nat) (vs : List Byte) :
    readBytes { s with mem := memInsertList a vs s.mem } a vs.length = vs := by
  refine List.ext_getElem (readBytes_length _ _ _) fun i _ hi => ?_
  simp [readBytes, readByte_insertList, byteAt, hi]

/-! ### PACK and UNPACK (R111, R115) -/

theorem exec_pack (s : State) :
    exec .pack s = .next (finish .ok 0 0 { s with mem := memInsertList 0x140 (packHeader s.hdrIn) s.mem }) := rfl

/-- No datagram and one shorter than a header are answered alike. -/
theorem exec_unpack_of_malformed {s : State} (h : rxResult s = .noDgram ∨ rxResult s = .malformed) :
    exec .unpack s = .next (finish .malformedPacket 0 0 s) := by
  rcases h with hno | hshort
  · simp only [exec, execUnpack, hno, finishCode_eq]
  · simp only [exec, execUnpack, hshort, finishCode_eq]

theorem exec_unpack_of_tooLong {s : State} (h : RxTooLong s) : exec .unpack s = .next (finish .lengthError 0 0 s) := by
  simp only [exec, execUnpack, rxResult_tooLong h, finishCode_eq]

theorem exec_unpack_of_decodes {s : State} (h : RxDecodes s) :
    exec .unpack s = .next (finish .ok 0 0 (withDecoded s)) := by
  simp only [exec, execUnpack, rxResult_decodes h, rxDecoded_decodes h, finishCode_eq]

end Sys2Proof.Machine
end

section
/-! The obligations on the header codec (40_codec.md): the pure functions, then the two commands. -/

namespace Sys2Proof.Machine

open Sys2Proof

/-! ### The pure functions (R110, R112, R114) -/

/-- Settles O19: `le32` and `le16` list their lanes in that order, so only the grouping of the appends differs. -/
theorem headerPacksInWireOrder : Obligations.HeaderPacksInWireOrder := by
  intro h
  rw [packHeader]
  simp only [List.append_assoc]
  rfl

/-- Settles O20: only the length decides, and the integers are the little-endian reads at their offsets. -/
theorem unpackReadsEachField : Obligations.UnpackReadsEachField := by
  intro b
  refine ⟨unpackBytes_short, fun hlen => ⟨unpackBytes_long hlen, fun i hi => headerOfBytes_sid b hi, ?_⟩⟩
  exact ⟨toNat_rd32 b 16, toNat_rd32 b 20, toNat_rd32 b 24, toNat_rd16 b 28, rfl, rfl⟩

/-- Settles O22: `sf` is the template's STTL put above the given flags; the other fields are copied. -/
theorem mkHdrCopiesSidAndSttl : Obligations.MkHdrCopiesSidAndSttl := by
  intro tmpl fl seq ack wnd fid fo
  exact ⟨rfl, headerSttl_mkHdr tmpl fl seq ack wnd fid fo, headerFlags_mkHdr tmpl fl seq ack wnd fid fo,
    rfl, rfl, rfl, rfl, rfl⟩

/-! ### The commands (R111, R115) -/

/-- Settles O23: the one write besides RESULT is that of the 32 packed bytes at PKT_OUT. -/
theorem packWritesPktOut : Obligations.PackWritesPktOut := by
  refine ⟨by decide, fun s => ⟨memInsertList 0x140 (packHeader s.hdrIn) s.mem, exec_pack s, ?_, fun a ha => ?_⟩⟩
  · have hback := readBytes_insertList_same s 0x140 (packHeader s.hdrIn)
    rwa [packHeader_length] at hback
  · rw [readByte_insertList, if_neg (by rw [packHeader_length]; omega)]

/-- Settles O24: each case of RX_LEN is one outcome of `rxDecode`. -/
theorem unpackDecodesTheDatagram : Obligations.UnpackDecodesTheDatagram := by
  refine ⟨by decide, fun s => ⟨fun hno => ?_, exec_unpack_of_tooLong, fun hshort => ?_, exec_unpack_of_decodes⟩⟩
  · exact exec_unpack_of_malformed (.inl (rxResult_noDgram hno))
  · exact exec_unpack_of_malformed (.inr (rxResult_short hshort))

end Sys2Proof.Machine
end

section
/-! What each session command answers, case by case (41_session.md R131 to R137): the packets the transmit commands send, and the
one form the two handshake replies share. -/

namespace Sys2Proof.Machine

open Sys2Proof

/-! ### The packets of the session commands (R84, R110, R112) -/

/-- A packet built on a template, its empty `fid` and `fo` last. -/
theorem packHeader_mkHdr (tmpl : Header) (fl : BitVec 5) (seq ack : Word) (wnd : Half) :
    packHeader (mkHdr tmpl fl seq ack wnd 0 0) = tmpl.sid.toList
      ++ le32 ((tmpl.sf.extractLsb' 5 27).setWidth 32 <<< 5 ||| fl.setWidth 32)
      ++ le32 seq ++ le32 ack ++ le16 wnd ++ [0, 0] := by
  rw [packHeader, List.append_assoc _ [_] [_]]
  rfl

/-- The Connect packet has no template: it is the one on the zero header, whose fields evaluate to the bytes written out. -/
theorem packHeader_connect (seq : Word) (wnd : Half) :
    packHeader (mkHdr Header.zero connectFlags seq 0 wnd 0 0) =
      List.replicate 16 0 ++ [0x10, 0, 0, 0] ++ le32 seq ++ [0, 0, 0, 0] ++ le16 wnd ++ [0, 0] :=
  packHeader_mkHdr _ _ _ _ _

/-! ### The transmit commands (R131, R133, R135) -/

section
variable {s : State}

theorem exec_connectTx_of_disconnected (hst : s.hsState = .disconnected) :
    exec .connectTx s = .next (finish .ok 0 0
      { emit (packHeader (mkHdr Header.zero connectFlags s.nextSeq 0 Config.params.localWindow 0 0)) s with
        nextSeq := s.nextSeq + 1
        pendingSeq := s.nextSeq
        pendingKind := .connect
        hsState := .connecting }) := by
  simp only [exec, execConnectTx, connectTx, if_pos hst, finishCode_eq]

theorem exec_connectTx_of_badState (hst : s.hsState ≠ .disconnected) :
    exec .connectTx s = .next (finish .badState 0 0 s) := by
  simp only [exec, execConnectTx, connectTx, if_neg hst, finishCode_eq]

theorem exec_disconnectTx_of_connected (hst : s.hsState = .connected) :
    exec .disconnectTx s = .next (finish .ok 0 0
      { emit (packHeader (mkHdr s.lastHeaderTemplate teardownFlags s.nextSeq s.lastPeerSeq 0 0 0)) s with
        nextSeq := s.nextSeq + 1
        discAttempts := 0
        hsState := .disconnecting }) := by
  simp only [exec, execDisconnectTx, if_pos hst, finishCode_eq]

theorem exec_disconnectTx_of_badState (hst : s.hsState ≠ .connected) :
    exec .disconnectTx s = .next (finish .badState 0 0 s) := by
  simp only [exec, execDisconnectTx, if_neg hst, finishCode_eq]

theorem exec_reviveTx_of_no_session (hsaved : s.hasSavedSession = false) :
    exec .reviveTx s = .next (finish .noSessionToRevive 0 0 s) := by
  simp only [exec, execReviveTx, reviveTx, if_pos hsaved, finishCode_eq]

theorem exec_reviveTx_of_badState (hsaved : s.hasSavedSession = true) (hst : s.hsState ≠ .disconnected) :
    exec .reviveTx s = .next (finish .badState 0 0 s) := by
  simp [exec, execReviveTx, reviveTx, hsaved, hst]

theorem exec_reviveTx_of_tooLong (hsaved : s.hasSavedSession = true) (hst : s.hsState = .disconnected)
    (hlen : txTooLong s = true) : exec .reviveTx s = .next (finish .lengthError 0 0 s) := by
  simp [exec, execReviveTx, reviveTx, hsaved, hst, hlen]

theorem exec_reviveTx_of_saved (hsaved : s.hasSavedSession = true) (hst : s.hsState = .disconnected)
    (hlen : txTooLong s = false) :
    exec .reviveTx s = .next (finish .ok 0 0
      { emit (packHeader (mkHdr s.savedHeaderForRevive reviveFlags s.nextSeq s.lastPeerSeq Config.params.localWindow 0 0)
          ++ txPayloadBytes s) s with
        nextSeq := s.nextSeq + 1
        pendingKind := .revive
        hsState := .connecting }) := by
  simp [exec, execReviveTx, reviveTx, hsaved, hst, hlen]

/-! ### The handshake replies (R132, R136, R137) -/

/-- What a reply command does in the exchange it completes. The two commands differ in the code for no datagram, the code for a
reply that is not accepted, and the test of acceptance. -/
def answerReply (silence refusal : ResultCode) (accepts : Header → Bool) (s : State) : State :=
  match rxResult s with
  | .lenErr => finish .lengthError 0 0 s
  | .noDgram => finish silence 0 0 { s with hsState := .disconnected }
  | .malformed => finish .malformedPacket 0 0 { s with hsState := .disconnected }
  | .ok h _ =>
    if accepts h then finish .ok 0 0 (acceptReply h (rxDecoded s))
    else finish refusal 0 0 { rxDecoded s with hsState := .disconnected }

/-- The test of CONNECT_RX (R132): ACK_SETUP is set and `ack` answers the pending Connect. -/
def acceptsConnect (pendingSeq : Word) (h : Header) : Bool := hasAckSetup h && decide (h.ack = pendingSeq)

theorem acceptsConnect_iff (pendingSeq : Word) (h : Header) :
    acceptsConnect pendingSeq h = true ↔ h.sf.getLsbD 1 = true ∧ h.ack = pendingSeq := by
  simp [acceptsConnect, hasAckSetup_eq]

theorem exec_connectRx_of_awaiting (hst : s.hsState = .connecting) (hkind : s.pendingKind = .connect) :
    exec .connectRx s =
      .next (answerReply .handshakeTimeout .handshakeRejected (acceptsConnect s.pendingSeq) s) := by
  rw [exec, execConnectRx, if_pos ⟨hst, hkind⟩, answerReply]
  cases rxResult s with
  | ok h payload => simp [acceptsConnect]
  | noDgram | lenErr | malformed => rfl

theorem exec_connectRx_of_badState (hst : ¬ (s.hsState = .connecting ∧ s.pendingKind = .connect)) :
    exec .connectRx s = .next (finish .badState 0 0 s) := by
  rw [exec, execConnectRx, if_neg hst, finishCode_eq]

theorem exec_reviveRx_of_awaiting (hst : s.hsState = .connecting) (hkind : s.pendingKind = .revive) :
    exec .reviveRx s = .next (answerReply .reviveRejected .reviveRejected hasAckSetup s) := by
  rw [exec, execReviveRx, if_pos ⟨hst, hkind⟩, answerReply]
  cases rxResult s <;> rfl

theorem exec_reviveRx_of_badState (hst : ¬ (s.hsState = .connecting ∧ s.pendingKind = .revive)) :
    exec .reviveRx s = .next (finish .badState 0 0 s) := by
  rw [exec, execReviveRx, if_neg hst, finishCode_eq]

section
variable {silence refusal : ResultCode} {accepts : Header → Bool}

theorem answerReply_tooLong (hrx : RxTooLong s) :
    answerReply silence refusal accepts s = finish .lengthError 0 0 s := by
  rw [answerReply, rxResult_tooLong hrx]

theorem answerReply_noDgram (hrx : s.rxNoDgram = true) :
    answerReply silence refusal accepts s = finish silence 0 0 { s with hsState := .disconnected } := by
  rw [answerReply, rxResult_noDgram hrx]

theorem answerReply_short (hrx : RxShort s) :
    answerReply silence refusal accepts s = finish .malformedPacket 0 0 { s with hsState := .disconnected } := by
  rw [answerReply, rxResult_short hrx]

theorem answerReply_accepted (hrx : RxDecodes s) (hacc : accepts (rxHeader s) = true) :
    answerReply silence refusal accepts s = finish .ok 0 0 (acceptReply (rxHeader s) (withDecoded s)) := by
  simp only [answerReply, rxResult_decodes hrx, rxDecoded_decodes hrx, if_pos hacc]

theorem answerReply_refused (hrx : RxDecodes s) (hacc : ¬ accepts (rxHeader s) = true) :
    answerReply silence refusal accepts s = finish refusal 0 0 { withDecoded s with hsState := .disconnected } := by
  simp only [answerReply, rxResult_decodes hrx, rxDecoded_decodes hrx, if_neg hacc]

end

/-! ### One Disconnect attempt (R134) -/

theorem exec_disconnectRx_of_badState (hst : s.hsState ≠ .disconnecting) :
    exec .disconnectRx s = .next (finish .badState 0 0 s) := by
  rw [exec, execDisconnectRx, if_neg hst, finishCode_eq]

theorem exec_disconnectRx_of_tooLong (hst : s.hsState = .disconnecting) (hrx : RxTooLong s) :
    exec .disconnectRx s = .next (finish .lengthError 0 0 s) := by
  simp only [exec, execDisconnectRx, if_pos hst, rxResult_tooLong hrx, finishCode_eq]

theorem exec_disconnectRx_of_ack (hst : s.hsState = .disconnecting) (hrx : RxDecodes s)
    (hack : hasAck (rxHeader s) = true) :
    exec .disconnectRx s = .next (finish .ok 0 0 (completeDisconnect (withDecoded s))) := by
  simp only [exec, execDisconnectRx, if_pos hst, rxResult_decodes hrx, rxDecoded_decodes hrx, if_pos hack, finishCode_eq]

/-- No datagram and one shorter than a header are counted alike. -/
theorem exec_disconnectRx_of_no_header (hst : s.hsState = .disconnecting) (hrx : s.rxNoDgram = true ∨ RxShort s) :
    exec .disconnectRx s = .next (failDisconnectAttempt s) := by
  rcases hrx with hno | hshort
  · simp only [exec, execDisconnectRx, if_pos hst, rxResult_noDgram hno]
  · simp only [exec, execDisconnectRx, if_pos hst, rxResult_short hshort]

theorem exec_disconnectRx_of_not_ack (hst : s.hsState = .disconnecting) (hrx : RxDecodes s)
    (hack : hasAck (rxHeader s) = false) :
    exec .disconnectRx s = .next (failDisconnectAttempt (withDecoded s)) := by
  simp [exec, execDisconnectRx, hst, rxResult_decodes hrx, rxDecoded_decodes hrx, hack]

theorem failDisconnectAttempt_pending (hn : (s.discAttempts + 1).toNat ≠ discAttemptLimit) :
    failDisconnectAttempt s =
      finish .disconnectPending (s.discAttempts + 1).toNat 0 { s with discAttempts := s.discAttempts + 1 } :=
  if_neg hn

theorem failDisconnectAttempt_last (hn : (s.discAttempts + 1).toNat = discAttemptLimit) :
    failDisconnectAttempt s =
      finish .disconnectNotAcknowledged discAttemptLimit 0 { s with discAttempts := 0, hsState := .connected } :=
  if_pos hn

/-- The three attempts of a Disconnect, by the count of those that failed before. -/
theorem failDisconnectAttempt_by_count :
    (s.discAttempts = 0 → failDisconnectAttempt s = { s with discAttempts := 1, result := 0x00000109#32 }) ∧
    (s.discAttempts = 1 → failDisconnectAttempt s = { s with discAttempts := 2, result := 0x00000209#32 }) ∧
    (s.discAttempts = 2 →
      failDisconnectAttempt s = { s with discAttempts := 0, hsState := .connected, result := 0x00000304#32 }) := by
  refine ⟨fun hn => ?_, fun hn => ?_, fun hn => ?_⟩
  · rw [failDisconnectAttempt_pending (by rw [hn]; decide), hn]
    rfl
  · rw [failDisconnectAttempt_pending (by rw [hn]; decide), hn]
    rfl
  · rw [failDisconnectAttempt_last (by rw [hn]; decide)]
    rfl

end

end Sys2Proof.Machine
end

section
/-! The obligations on the session commands (41_session.md): each command's word, then its cases. -/

namespace Sys2Proof.Machine

open Sys2Proof

/-! ### Connect (R131, R132) -/

/-- Settles O25: the packet is `mkHdr` on the zero header. -/
theorem connectTxSendsTheConnect : Obligations.ConnectTxSendsTheConnect := by
  refine ⟨by decide, fun s => ⟨fun hst => ?_, exec_connectTx_of_badState⟩⟩
  rw [exec_connectTx_of_disconnected hst, packHeader_connect]
  rfl

/-- Settles O26: awaiting a Connect reply, each case of RX_LEN is one case of `answerReply`. -/
theorem connectRxConsumesTheReply : Obligations.ConnectRxConsumesTheReply := by
  refine ⟨by decide, fun s => ⟨exec_connectRx_of_badState, fun hst hkind => ?_⟩⟩
  rw [exec_connectRx_of_awaiting hst hkind]
  refine ⟨fun hrx => ?_, fun hrx => ?_, fun hrx => ?_, fun hrx hsetup hack => ?_, fun hrx hnot => ?_⟩
  · rw [answerReply_tooLong hrx]; rfl
  · rw [answerReply_noDgram hrx]; rfl
  · rw [answerReply_short hrx]; rfl
  · rw [answerReply_accepted hrx ((acceptsConnect_iff _ _).mpr ⟨hsetup, hack⟩)]; rfl
  · rw [answerReply_refused hrx (mt (acceptsConnect_iff _ _).mp hnot)]; rfl

/-! ### Disconnect (R133, R134) -/

/-- Settles O27: the packet is `mkHdr` on the template. -/
theorem disconnectTxSendsTheTeardown : Obligations.DisconnectTxSendsTheTeardown := by
  refine ⟨by decide, fun s => ⟨fun hst => ?_, exec_disconnectTx_of_badState⟩⟩
  rw [exec_disconnectTx_of_connected hst, packHeader_mkHdr]
  rfl

/-- Settles O28: whatever makes an attempt fail, it is counted by `failDisconnectAttempt`. -/
theorem disconnectRxConsumesOneAttempt : Obligations.DisconnectRxConsumesOneAttempt := by
  refine ⟨by decide, fun s => ⟨exec_disconnectRx_of_badState, exec_disconnectRx_of_tooLong, fun hst hrx hack => ?_,
    fun u hst hfailed => ?_⟩⟩
  · rw [exec_disconnectRx_of_ack hst hrx (by rwa [hasAck_eq])]
    rfl
  · have hcounted : exec .disconnectRx s = .next (failDisconnectAttempt u) ∧ u.discAttempts = s.discAttempts := by
      rcases hfailed with ⟨hrx, rfl⟩ | ⟨hrx, hack, rfl⟩
      · exact ⟨exec_disconnectRx_of_no_header hst hrx, rfl⟩
      · exact ⟨exec_disconnectRx_of_not_ack hst hrx (by rwa [hasAck_eq]), withDecoded_discAttempts s⟩
    obtain ⟨hexec, hcount⟩ := hcounted
    obtain ⟨hfirst, hsecond, hthird⟩ := failDisconnectAttempt_by_count (s := u)
    rw [hexec, ← hcount]
    exact ⟨fun hn => congrArg _ (hfirst hn), fun hn => congrArg _ (hsecond hn), fun hn => congrArg _ (hthird hn)⟩

/-! ### Revive (R135, R136) -/

/-- Settles O29: the packet is `mkHdr` on the snapshot, with the payload of TX_PAYLOAD behind it. -/
theorem reviveTxSendsTheRevive : Obligations.ReviveTxSendsTheRevive := by
  refine ⟨by decide, fun s => ⟨exec_reviveTx_of_no_session, exec_reviveTx_of_badState, fun hsaved hst hlen => ?_,
    fun hsaved hst hlen => ?_⟩⟩
  · exact exec_reviveTx_of_tooLong hsaved hst ((txTooLong_iff s).mpr hlen)
  · have hfits : txTooLong s = false := by rw [← Bool.not_eq_true, txTooLong_iff]; omega
    rw [exec_reviveTx_of_saved hsaved hst hfits, packHeader_mkHdr]
    rfl

/-- Settles O30: awaiting a Revive reply, each case of RX_LEN is one case of `answerReply`. -/
theorem reviveRxConsumesTheReply : Obligations.ReviveRxConsumesTheReply := by
  refine ⟨by decide, fun s => ⟨exec_reviveRx_of_badState, fun hst hkind => ?_⟩⟩
  rw [exec_reviveRx_of_awaiting hst hkind]
  refine ⟨fun hrx => ?_, fun hrx => ?_, fun hrx => ?_, fun hrx hsetup => ?_, fun hrx hsetup => ?_⟩
  · rw [answerReply_tooLong hrx]; rfl
  · rw [answerReply_noDgram hrx]; rfl
  · rw [answerReply_short hrx]; rfl
  · rw [answerReply_accepted hrx (by rwa [hasAckSetup_eq])]; rfl
  · rw [answerReply_refused hrx (by rw [hasAckSetup_eq, hsetup]; decide)]; rfl

end Sys2Proof.Machine
end

section
/-! What each scheduler command answers, case by case (42_scheduler.md R161 to R172), and where the entries of the table come
from. -/

namespace Sys2Proof.Machine

open Sys2Proof

/-! ### Words (R19, R87, R88, R221) -/

/-- A word that some row of the opcode map matches decodes (R88). -/
theorem exists_decode_of_row {w : Word} {r : OpcodeRow} (hr : r ∈ opcodeRows) (hmatch : w &&& r.mask = r.value) :
    ∃ i, decode w = .ok i := by
  unfold decode
  split
  · exact ⟨_, rfl⟩
  · next hnone => exact absurd hmatch (by simpa using List.find?_eq_none.mp hnone r hr)

/-- Every row but DATA_TX's compares the whole word with a word that is not DATA_TX's (R88). -/
theorem opcodeRow_dataTx_or_excludes :
    ∀ r ∈ opcodeRows, r.build = (fun w => .dataTx (cmdMf w) (cmdFid w) (cmdFo w)) ∨
      (r.mask = BitVec.allOnes 32 ∧ r.value &&& 0x0000FEFF#32 ≠ 0x00000020#32) := by
  simp [opcodeRows]

/-- The words of DATA_TX decode to it, with the three fields they carry (R87, R88). -/
theorem decode_dataTx_word {w : Word} (hw : w &&& 0x0000FEFF#32 = 0x00000020#32) :
    decode w = .ok (.dataTx (cmdMf w) (cmdFid w) (cmdFo w)) := by
  have hrow : ∃ r ∈ opcodeRows, r.mask = 0x0000FEFF#32 ∧ r.value = 0x00000020#32 := by simp [opcodeRows]
  obtain ⟨r, hr, hmask, hvalue⟩ := hrow
  obtain ⟨i, hdec⟩ := exists_decode_of_row hr (by rw [hmask, hvalue, hw])
  obtain ⟨r', hr', hmatch, rfl⟩ := decode_ok_row hdec
  rcases opcodeRow_dataTx_or_excludes r' hr' with hbuild | ⟨hwhole, hother⟩
  · rw [hdec, hbuild]
  · rw [hwhole, BitVec.and_allOnes] at hmatch
    exact absurd hw (hmatch ▸ hother)

/-- The difference that stops at zero is that of the natural numbers (R19). -/
theorem satSub_eq_ofNat (a b : Half) : satSub a b = BitVec.ofNat 16 (a.toNat - b.toNat) := by
  unfold satSub
  split
  · next hle => exact BitVec.eq_of_toNat_eq (by bv_omega)
  · next hlt => rw [Nat.sub_eq_zero_of_le (by bv_omega)]; rfl

/-- The RESULT word of a success: its two counts stand in bytes 1 and 2 (R221). -/
theorem resultWord_ok (a b : Nat) :
    resultWord .ok a b = BitVec.ofNat 32 (256 * min a 255 + 65536 * min b 255) := by
  have hbyte (n : Nat) : BitVec.ofNat 32 (min n 255) = (BitVec.ofNat 8 (min n 255)).setWidth 32 :=
    BitVec.eq_of_toNat_eq (by simp)
  have hval (n : Nat) : (BitVec.ofNat 8 (min n 255)).toNat = min n 255 :=
    Nat.mod_eq_of_lt (by omega)
  have hlow : ((codeByte .ok).setWidth 32 ||| (BitVec.ofNat 8 (min a 255)).setWidth 32 <<< 8).toNat = 256 * min a 255 := by
    rw [toNat_or_byte_shiftLeft _ (by decide) (by decide), hval]
    simp [codeByte]
  apply BitVec.eq_of_toNat_eq
  rw [resultWord, hbyte a, hbyte b, toNat_or_byte_shiftLeft _ (by rw [hlow]; omega) (by decide), hlow, hval,
    BitVec.toNat_ofNat]
  omega

/-! ### DATA_TX (R162 to R164) -/

/-- The datagram DATA_TX sends: the fragment's header and the bytes of TX_PAYLOAD (R163). -/
def dataDatagram (mf : BitVec 1) (fid fo : Byte) (s : State) : List Byte :=
  packHeader (dataHeader Config.params mf fid fo s) ++ txPayloadBytes s

/-- The flags of a data fragment below the template's STTL bits: ACK, and MF as the command has it (R84). -/
theorem or_dataFlags_setWidth (sttl : Word) (mf : BitVec 1) :
    sttl ||| (dataFlags mf).setWidth 32 = sttl ||| 0x04 ||| mf.setWidth 32 := by
  have hwide : (mf.setWidth 5).setWidth 32 = mf.setWidth 32 := BitVec.setWidth_setWidth (by omega)
  rw [dataFlags, BitVec.setWidth_or, hwide, BitVec.or_assoc]
  rfl

theorem dataDatagram_eq (mf : BitVec 1) (fid fo : Byte) (s : State) :
    dataDatagram mf fid fo s = s.lastHeaderTemplate.sid.toList
      ++ le32 ((s.lastHeaderTemplate.sf.extractLsb' 5 27).setWidth 32 <<< 5 ||| 0x04 ||| mf.setWidth 32)
      ++ le32 s.nextSeq ++ le32 s.lastPeerSeq
      ++ le16 (BitVec.ofNat 16 (Config.params.localWindow.toNat - s.bytesInFlight.toNat)) ++ [fid, fo]
      ++ readBytes s 0x800 s.txLen.toNat := by
  rw [← or_dataFlags_setWidth, ← satSub_eq_ofNat, dataDatagram, packHeader, List.append_assoc _ [_] [_]]
  rfl

section
variable {mf : BitVec 1} {fid fo : Byte} {s : State}

theorem exec_dataTx_of_badState (hst : s.hsState ≠ .connected) :
    exec (.dataTx mf fid fo) s = .next (finish .badState 0 0 s) := by
  simp only [exec, execDataTx, dataTx, if_neg hst, finishCode_eq]

theorem exec_dataTx_of_tooLong (hst : s.hsState = .connected) (hlen : txTooLong s = true) :
    exec (.dataTx mf fid fo) s = .next (finish .lengthError 0 0 s) := by
  simp only [exec, execDataTx, dataTx, if_pos hst, if_pos hlen, finishCode_eq]

theorem exec_dataTx_of_refused (hst : s.hsState = .connected) (hlen : ¬ txTooLong s = true)
    (hroom : ¬ dataAdmits Config.params s (txLength s) = true) :
    exec (.dataTx mf fid fo) s = .next (finish .windowExhausted 0 0 s) := by
  simp only [exec, execDataTx, dataTx, if_pos hst, if_neg hlen, if_neg hroom, finishCode_eq]

theorem exec_dataTx_of_admitted (hst : s.hsState = .connected) (hlen : ¬ txTooLong s = true)
    (hroom : dataAdmits Config.params s (txLength s) = true) :
    exec (.dataTx mf fid fo) s = .next (finish .ok 0 0
      { emit (dataDatagram mf fid fo s) s with
        inflight := s.inflight ++ [newEntry (dataDatagram mf fid fo s) s.nextSeq (txLength s) s.now]
        bytesInFlight := s.bytesInFlight + BitVec.ofNat 16 (txLength s)
        nextSeq := s.nextSeq + 1 }) := by
  simp only [exec, execDataTx, dataTx, if_pos hst, if_neg hlen, if_pos hroom, finishCode_eq, dataDatagram]

end

/-! ### ACK_RX (R166 to R168) -/

theorem ackCovers_eq (a : Word) : ackCovers a = fun e => decide (e.seq.toNat ≤ a.toNat) := rfl

theorem not_ackCovers_eq (a : Word) : (fun e => !ackCovers a e) = fun e => decide (a.toNat < e.seq.toNat) := by
  funext e
  rw [ackCovers_eq, ← decide_not]
  simp only [Nat.not_le]

section
variable {s : State}

theorem exec_ackRx_of_badState (hst : s.hsState ≠ .connected) :
    exec .ackRx s = .next (finish .badState 0 0 s) := by
  simp only [exec, execAckRx, if_neg hst, finishCode_eq]

theorem exec_ackRx_of_tooLong (hst : s.hsState = .connected) (hrx : RxTooLong s) :
    exec .ackRx s = .next (finish .lengthError 0 0 s) := by
  simp only [exec, execAckRx, if_pos hst, rxResult_tooLong hrx, finishCode_eq]

/-- No datagram and one shorter than a header are answered alike. -/
theorem exec_ackRx_of_no_header (hst : s.hsState = .connected) (hrx : s.rxNoDgram = true ∨ RxShort s) :
    exec .ackRx s = .next (finish .malformedPacket 0 0 s) := by
  rcases hrx with hno | hshort
  · simp only [exec, execAckRx, if_pos hst, rxResult_noDgram hno, finishCode_eq]
  · simp only [exec, execAckRx, if_pos hst, rxResult_short hshort, finishCode_eq]

theorem exec_ackRx_of_not_ack (hst : s.hsState = .connected) (hrx : RxDecodes s) (hack : ¬ hasAck (rxHeader s) = true) :
    exec .ackRx s = .next (finish .notAck 0 0 (withDecoded s)) := by
  simp only [exec, execAckRx, if_pos hst, rxResult_decodes hrx, rxDecoded_decodes hrx, if_neg hack, finishCode_eq]

theorem exec_ackRx_of_ack (hst : s.hsState = .connected) (hrx : RxDecodes s) (hack : hasAck (rxHeader s) = true) :
    exec .ackRx s = .next (finish .ok (retiredCount (rxHeader s).ack s) 0
      (refreshPeer (rxHeader s) (retire (rxHeader s).ack (withDecoded s)))) := by
  simp only [exec, execAckRx, if_pos hst, rxResult_decodes hrx, rxDecoded_decodes hrx, if_pos hack]

end

/-! ### SWEEP (R169 to R172) -/

theorem not_atCeiling (p : Params) (e : Entry) : (!atCeiling p e) = decide (e.retries.toNat < p.retryCeiling) := by
  rw [atCeiling, ← decide_not]
  simp only [ge_iff_le, Nat.not_le]

theorem exec_sweep (s : State) : exec .sweep s = .next (sweep Config.params s) := rfl

/-- A sweep in terms of the entries it drops and those it resends. -/
theorem sweep_eq (p : Params) (s : State) :
    sweep p s = finish .ok (s.inflight.filter (sweepResends p s.now)).length
      (s.inflight.filter (sweepDrops p s.now)).length
      { s with
        inflight := (s.inflight.filter (fun e => !sweepDrops p s.now e)).map
          (fun e => if sweepResends p s.now e then resent s.now e else e)
        tx := s.tx ++ (s.inflight.filter (sweepResends p s.now)).map Entry.bytes
        bytesInFlight := s.bytesInFlight - BitVec.ofNat 16 ((s.inflight.filter (sweepDrops p s.now)).map Entry.len).sum } := by
  simp only [sweep, sweepTable_table, sweepTable_sent, sweepTable_droppedLens, List.length_map]

/-- Every datagram a sweep emits is held in the table (R174). -/
theorem mem_table_of_mem_sent {p : Params} {now : Word} {es : List Entry} {d : List Byte}
    (hd : d ∈ (sweepTable p now es).sent) : ∃ e ∈ es, d = e.bytes := by
  rw [sweepTable_sent] at hd
  obtain ⟨e, he, rfl⟩ := List.mem_map.mp hd
  exact ⟨e, List.mem_of_mem_filter he, rfl⟩

/-! ### Where the entries of the table come from (R33, R174) -/

/-- The parts of an entry that stand for its datagram and never change are the same. -/
def Entry.SameDatagram (e e' : Entry) : Prop := e.bytes = e'.bytes ∧ e.seq = e'.seq ∧ e.len = e'.len

theorem Entry.SameDatagram.refl (e : Entry) : e.SameDatagram e := ⟨rfl, rfl, rfl⟩

theorem resent_sameDatagram (now : Word) (e : Entry) : (resent now e).SameDatagram e := ⟨rfl, rfl, rfl⟩

/-- A sweep rewrites no datagram: each entry it leaves was there before, resent or not. -/
theorem sweepTable_origin {p : Params} {now : Word} {es : List Entry} {e : Entry}
    (he : e ∈ (sweepTable p now es).table) : ∃ e' ∈ es, e.SameDatagram e' := by
  rw [sweepTable_table] at he
  obtain ⟨e', he', rfl⟩ := List.mem_map.mp he
  refine ⟨e', List.mem_of_mem_filter he', ?_⟩
  split
  · exact resent_sameDatagram now e'
  · exact .refl e'

@[simp] theorem rxDecoded_inflight (s : State) : (rxDecoded s).inflight = s.inflight := by
  rcases rxDecoded_cases s with h | h <;> simp [h]

/-- An entry held after a command was held before it, or is the datagram that a DATA_TX has just sent. -/
theorem CommandEffect.entry_origin {s t : State} {i : Instr} (h : CommandEffect s i t) {e : Entry} (he : e ∈ t.inflight) :
    (∃ e' ∈ s.inflight, e.SameDatagram e') ∨
    (∃ mf fid fo, i = .dataTx mf fid fo ∧ t.tx = s.tx ++ [e.bytes] ∧ e.seq = s.nextSeq ∧ e.retries = 0 ∧
      e.lastSend = s.now) := by
  cases h with
  | dataSent mf fid fo =>
    rcases List.mem_append.mp he with hold | hnew
    · exact .inl ⟨e, hold, .refl e⟩
    · obtain rfl := List.mem_singleton.mp hnew
      exact .inr ⟨mf, fid, fo, rfl, rfl, rfl, rfl, rfl⟩
  | swept => exact .inl (sweepTable_origin he)
  | acked => exact .inl ⟨e, by simpa using List.mem_of_mem_filter he, .refl e⟩
  | handshakeDone | disconnectDone => exact absurd he List.not_mem_nil
  | rejected | packed | unpacked | connectSent | teardownSent | reviveSent | handshakeFailed | disconnectPending
  | disconnectGivenUp | notAck => exact .inl ⟨e, by simpa using he, .refl e⟩

end Sys2Proof.Machine
end

section
/-! The obligations on the retransmit scheduler (42_scheduler.md): sending, acknowledging, resending, and the tick. -/

namespace Sys2Proof.Machine

open Sys2Proof

/-- Settles O33: the checks in their order, and where `dataAdmits` is the formula of R161 what it admits. -/
theorem dataTxAdmitsSendsAndRegisters : Obligations.DataTxAdmitsSendsAndRegisters := by
  refine ⟨fun w hw => ⟨_, _, _, decode_dataTx_word hw⟩, fun mf fid fo s => ⟨exec_dataTx_of_badState, fun hst hlen => ?_,
    fun hst hlen hfull => ?_, fun d hst hlen hwin hroom hd => ?_⟩⟩
  · exact exec_dataTx_of_tooLong hst ((txTooLong_iff s).mpr hlen)
  · have hfits : ¬ txTooLong s = true := by rw [txTooLong_iff]; omega
    have hno : ¬ dataAdmits Config.params s (txLength s) = true := by rw [dataAdmits_iff, txLength]; omega
    exact exec_dataTx_of_refused hst hfits hno
  · have hfits : ¬ txTooLong s = true := by rw [txTooLong_iff]; omega
    have hadmit : dataAdmits Config.params s (txLength s) = true := (dataAdmits_iff _ _ _).mpr ⟨.inl hwin, hroom⟩
    have hbytes : s.bytesInFlight + BitVec.ofNat 16 (txLength s) =
        BitVec.ofNat 16 (s.bytesInFlight.toNat + s.txLen.toNat) := by
      rw [BitVec.ofNat_add, BitVec.ofNat_toNat, BitVec.setWidth_eq, txLength]
    rw [exec_dataTx_of_admitted hst hfits hadmit, hbytes, hd, ← dataDatagram_eq]
    rfl

/-- Settles O35: each case of RX_LEN is one outcome of `rxDecode`; with the ACK flag, `retire` and then `refreshPeer`. -/
theorem ackRxRetiresAndRefreshes : Obligations.AckRxRetiresAndRefreshes := by
  refine ⟨by decide, fun s => ⟨exec_ackRx_of_badState, fun hst => ⟨exec_ackRx_of_tooLong hst, exec_ackRx_of_no_header hst,
    fun hrx hack => ?_, fun hrx hack => ?_⟩⟩⟩
  · exact exec_ackRx_of_not_ack hst hrx (by rw [hasAck_eq, hack]; decide)
  · rw [exec_ackRx_of_ack hst hrx (by rwa [hasAck_eq]), finish, resultWord_ok, retire, not_ackCovers_eq]
    rfl

/-- Settles O36: the three tests of the statement are those of the sweep. -/
theorem sweepResendsAndDrops : Obligations.SweepResendsAndDrops := by
  refine ⟨by decide, fun s late drop resend hlate hdrop hresend => ?_⟩
  obtain rfl : drop = sweepDrops Config.params s.now := funext fun e => by
    rw [hdrop, hlate]; rfl
  obtain rfl : resend = sweepResends Config.params s.now := funext fun e => by
    rw [hresend, hlate, sweepResends, not_atCeiling]; rfl
  rw [exec_sweep, sweep_eq, finish, resultWord_ok]
  rfl

/-- Settles O38: a sweep emits stored bytes, and no command rewrites a stored datagram. -/
theorem resendsAreByteIdentical : Obligations.ResendsAreByteIdentical := by
  refine fun i s t h => ⟨?_, fun e he => (exec_effect h).entry_origin he⟩
  rintro rfl
  obtain rfl := Host.Outcome.next.inj h
  exact ⟨_, sweep_tx _ _, fun d hd => mem_table_of_mem_sent hd⟩

theorem step_tick {s : State} {rest : List HostInput} (hin : s.input = .tick :: rest) :
    step s = .next (tickPulse { s with input := rest }) := by
  simp only [step, hin, serve]

/-- Settles O7: serving the tick is `tickPulse`, which adds one to `now`. -/
theorem tickOnlyAdvancesNow : Obligations.TickOnlyAdvancesNow :=
  fun _ _ hin => step_tick hin

end Sys2Proof.Machine
end

section
/-! The host reads STATUS: the word's low bits are the handshake state (R21, R51), and `sendMessage` ends right after that read
without a CONNECTED session or with a message of more than 256 fragments (43_host_sequences.md R194). -/

namespace Sys2Proof.Machine

open Sys2Proof

/-! ### The STATUS word (R21, R51) -/

theorem hsBits_eq_connected_iff (st : HsState) : hsBits st = hsBits .connected ↔ st = .connected := by
  cases st <;> decide

/-- STATUS[1:0] is the handshake state: every other field of the word stands above bit 1. -/
theorem statusWord_hsBits (s : State) : (statusWord s).extractLsb' 0 2 = hsBits s.hsState := by
  ext k hk
  have h2 : k < 32 := by omega
  simp [statusWord, hk, h2, show k < 3 by omega, show k < 4 by omega, show k < 5 by omega]

theorem statusWord_connected_iff (s : State) :
    (statusWord s).extractLsb' 0 2 = hsBits .connected ↔ s.hsState = .connected := by
  rw [statusWord_hsBits, hsBits_eq_connected_iff]

/-! ### The host's read of STATUS (R60, R190) -/

/-- The host after its read of STATUS: the gap's ticks have passed, and the port has answered the word. -/
def afterStatusRead (g : HostSys) : HostSys :=
  { g with
    gaps := g.gaps.tail
    block := { g.block with
      now := g.block.now + BitVec.ofNat 32 (g.gaps.headD 0)
      busOut := g.block.busOut ++ [statusWord g.block] } }

/-- The ticks before the read do not show in STATUS. -/
theorem hostRead_status (g : HostSys) : hostRead .STATUS g = (statusWord g.block, afterStatusRead g) := by
  have hmap : mappedWord (regOffset .STATUS) = some .status := rfl
  have hword (s : State) : busRead (regOffset .STATUS) s = statusWord s := busRead_of_mapped hmap s
  rw [hostRead, hostAct_read, hostPause_eq, hword]
  rfl

/-! ### `sendMessage` fails at once (R194) -/

theorem sendMessage_of_not_connected (hp : HostParams) (msg : List Byte) {g : HostSys} (hst : g.block.hsState ≠ .connected) :
    sendMessage hp msg g = (.failure .notActive, afterStatusRead g) := by
  rw [sendMessage, hostRead_status, if_pos (mt (statusWord_connected_iff _).mp hst)]

theorem sendMessage_of_tooLong (hp : HostParams) {msg : List Byte} {g : HostSys} (hst : g.block.hsState = .connected)
    (hlen : maxFrags * maxPayload < msg.length) : sendMessage hp msg g = (.failure .tooLong, afterStatusRead g) := by
  rw [sendMessage, hostRead_status, if_neg (not_not.mpr ((statusWord_connected_iff _).mpr hst)), if_pos hlen]

/-- Settles O52: each clause is one of the two tests that follow the read of STATUS. -/
theorem sendMessageNeedsASession : Obligations.SendMessageNeedsASession := by
  rintro hp msg g _ rfl
  exact ⟨sendMessage_of_not_connected hp msg, sendMessage_of_tooLong hp⟩

end Sys2Proof.Machine
end

section
/-! The reset input (70_reset_and_hazards.md R250): serving it is `resetPulse`, whose registers are those of `State.reset` (R40). -/

namespace Sys2Proof.Machine

open Sys2Proof

theorem step_reset {s : State} {rest : List HostInput} (hin : s.input = .reset :: rest) :
    step s = .next (resetPulse { s with input := rest }) := by
  simp only [step, hin, serve]

/-- The reset state is DISCONNECTED (R40), which is not `active` (R25). -/
@[simp] theorem sessionActive_resetPulse (s : State) : sessionActive (resetPulse s) = false := by
  simp [sessionActive, State.reset]

/-- Settles O8: the step is `resetPulse`, each of its registers is that of `State.reset`, and there R40's values stand. -/
theorem resetGivesTheListedValues : Obligations.ResetGivesTheListedValues := by
  intro s rest hin
  refine ⟨_, step_reset hin, ?_⟩
  simp [State.reset]

end Sys2Proof.Machine
end

section
/-! The command word (30_encoding.md R87 to R89): the decoder and the encoder undo each other, and the words outside the opcode
map. -/

namespace Sys2Proof.Machine

open Sys2Proof

/-! ### DATA_TX's word, bit by bit (R87) -/

theorem encode_dataTx_select (mf : BitVec 1) (fid fo : Byte) :
    encode (.dataTx mf fid fo) &&& 0x0000FEFF#32 = 0x00000020#32 := by
  ext k hk
  interval_cases k <;> simp [encode]

@[simp] theorem cmdMf_encode_dataTx (mf : BitVec 1) (fid fo : Byte) : cmdMf (encode (.dataTx mf fid fo)) = mf := by
  ext k hk
  obtain rfl : k = 0 := by omega
  simp [encode, cmdMf]

@[simp] theorem cmdFid_encode_dataTx (mf : BitVec 1) (fid fo : Byte) : cmdFid (encode (.dataTx mf fid fo)) = fid := by
  ext k hk
  interval_cases k <;> simp [encode, cmdFid]

@[simp] theorem cmdFo_encode_dataTx (mf : BitVec 1) (fid fo : Byte) : cmdFo (encode (.dataTx mf fid fo)) = fo := by
  ext k hk
  interval_cases k <;> simp [encode, cmdFo]

/-- A word of DATA_TX holds nothing but OPC and its three fields. -/
theorem encode_dataTx_of_select {w : Word} (hw : w &&& 0x0000FEFF#32 = 0x00000020#32) :
    encode (.dataTx (cmdMf w) (cmdFid w) (cmdFo w)) = w := by
  ext k hk
  have hbit : (w &&& 0x0000FEFF#32)[k] = (0x00000020#32)[k] := by rw [hw]
  clear hw
  interval_cases k <;> simp_all [encode, cmdMf, cmdFid, cmdFo]

/-! ### Decoding and encoding (R87, R88) -/

/-- Settles O1: a command without operands is one word, and DATA_TX's word has its three fields where the decoder reads them. -/
theorem decodeOfEncodeIsTheCommand : Obligations.DecodeOfEncodeIsTheCommand := by
  intro i
  cases i with
  | dataTx mf fid fo =>
    rw [decode_dataTx_word (encode_dataTx_select mf fid fo), cmdMf_encode_dataTx, cmdFid_encode_dataTx, cmdFo_encode_dataTx]
  | pack | unpack | connectTx | connectRx | disconnectTx | disconnectRx | reviveTx | reviveRx | ackRx | sweep => decide

/-- A row of the opcode map either is DATA_TX's or compares the whole word with the encoding of the command it builds (R88). -/
theorem opcodeRow_dataTx_or_encodes :
    ∀ r ∈ opcodeRows,
      (r.mask = 0x0000FEFF#32 ∧ r.value = 0x00000020#32 ∧ r.build = fun w => .dataTx (cmdMf w) (cmdFid w) (cmdFo w)) ∨
      (r.mask = BitVec.allOnes 32 ∧ ∀ w, encode (r.build w) = r.value) := by
  simp [opcodeRows, encode]

/-- Settles O2: the row that a word matches builds the command whose encoding is that word. -/
theorem encodeOfDecodeIsTheWord : Obligations.EncodeOfDecodeIsTheWord := by
  intro w i hdec
  obtain ⟨r, hr, hmatch, rfl⟩ := decode_ok_row hdec
  rcases opcodeRow_dataTx_or_encodes r hr with ⟨hmask, hvalue, hbuild⟩ | ⟨hmask, hencode⟩
  · rw [hmask, hvalue] at hmatch
    rw [hbuild, encode_dataTx_of_select hmatch]
  · rw [hmask, BitVec.and_allOnes] at hmatch
    rw [hencode, hmatch]

/-- A word the decoder rejects is illegal (R89): every other word is the encoding of a command. -/
theorem illegalWord_of_decode_error {w : Word} {e : DecodeError} (hdec : decode w = .error e) : IllegalWord w := by
  have hnone (i : Instr) : encode i ≠ w := by
    rintro rfl
    cases hdec.symm.trans (decodeOfEncodeIsTheCommand i)
  refine ⟨fun hselect => hnone _ (encode_dataTx_of_select hselect), fun hmem => ?_⟩
  have hencoded : w ∈ [.pack, .unpack, .connectTx, .connectRx, .disconnectTx, .disconnectRx, .reviveTx, .reviveRx, .ackRx,
    .sweep].map encode := hmem
  obtain ⟨i, -, hi⟩ := List.mem_map.mp hencoded
  exact hnone i hi

/-- Settles O3: DATA_TX's words are one row of the map, and a word is illegal exactly when no row matches it. -/
theorem decoderSelectsOnTheFullWord : Obligations.DecoderSelectsOnTheFullWord :=
  fun _ => ⟨decode_dataTx_word, decode_illegalWord, fun ⟨_, hdec⟩ => illegalWord_of_decode_error hdec⟩

/-- Settles O4: each of the eleven words is the encoding of its command. -/
theorem writtenOutWordsDecode : Obligations.WrittenOutWordsDecode := by
  have hback := decodeOfEncodeIsTheCommand
  exact ⟨hback .pack, hback .unpack, hback .connectTx, hback .connectRx, hback .disconnectTx, hback .disconnectRx,
    hback .reviveTx, hback .reviveRx, hback (.dataTx 1 0x65 0x02), hback .ackRx, hback .sweep⟩

/-! ### The step that runs a command (R60) -/

/-- Settles O5: a word written to CMD is stored and run, and running it is decoding it. -/
theorem stepRunsTheDecodedCommand : Obligations.StepRunsTheDecodedCommand := by
  intro s w rest i hin hdec
  rw [step_commandWrite hin, runCommand, hdec]

end Sys2Proof.Machine
end

section
/-! What no command and no store reaches, field by field (10_state.md R36, 20_memory.md R72), and the RESULT words of each command
(60_exceptions.md R221). -/

namespace Sys2Proof.Machine

open Sys2Proof

/-! ### Fields left alone -/

@[simp] theorem rxDecoded_bytesInFlight (s : State) : (rxDecoded s).bytesInFlight = s.bytesInFlight := by
  rcases rxDecoded_cases s with h | h <;> simp [h]
@[simp] theorem rxDecoded_cmd (s : State) : (rxDecoded s).cmd = s.cmd := by
  rcases rxDecoded_cases s with h | h <;> simp [h]
@[simp] theorem rxDecoded_txLen (s : State) : (rxDecoded s).txLen = s.txLen := by
  rcases rxDecoded_cases s with h | h <;> simp [h]
@[simp] theorem rxDecoded_rxNoDgram (s : State) : (rxDecoded s).rxNoDgram = s.rxNoDgram := by
  rcases rxDecoded_cases s with h | h <;> simp [h]
@[simp] theorem rxDecoded_rxLen (s : State) : (rxDecoded s).rxLen = s.rxLen := by
  rcases rxDecoded_cases s with h | h <;> simp [h]
@[simp] theorem rxDecoded_hdrIn (s : State) : (rxDecoded s).hdrIn = s.hdrIn := by
  rcases rxDecoded_cases s with h | h <;> simp [h]
@[simp] theorem rxDecoded_mem (s : State) : (rxDecoded s).mem = s.mem := by
  rcases rxDecoded_cases s with h | h <;> simp [h]
@[simp] theorem rxDecoded_busOut (s : State) : (rxDecoded s).busOut = s.busOut := by
  rcases rxDecoded_cases s with h | h <;> simp [h]
@[simp] theorem rxDecoded_input (s : State) : (rxDecoded s).input = s.input := by
  rcases rxDecoded_cases s with h | h <;> simp [h]
@[simp] theorem rxDecoded_drawEpoch (s : State) : (rxDecoded s).drawEpoch = s.drawEpoch := by
  rcases rxDecoded_cases s with h | h <;> simp [h]

@[simp] theorem writeMapped_discAttempts (s : State) (v : Word) (r : MappedWord) :
    (writeMapped s v r).discAttempts = s.discAttempts := by
  unfold writeMapped; split <;> rfl
@[simp] theorem writeMapped_bytesInFlight (s : State) (v : Word) (r : MappedWord) :
    (writeMapped s v r).bytesInFlight = s.bytesInFlight := by
  unfold writeMapped; split <;> rfl
@[simp] theorem writeMapped_inflight (s : State) (v : Word) (r : MappedWord) :
    (writeMapped s v r).inflight = s.inflight := by
  unfold writeMapped; split <;> rfl
@[simp] theorem writeMapped_result (s : State) (v : Word) (r : MappedWord) : (writeMapped s v r).result = s.result := by
  unfold writeMapped; split <;> rfl
@[simp] theorem writeMapped_hdrOutPlen (s : State) (v : Word) (r : MappedWord) :
    (writeMapped s v r).hdrOutPlen = s.hdrOutPlen := by
  unfold writeMapped; split <;> rfl
@[simp] theorem writeMapped_tx (s : State) (v : Word) (r : MappedWord) : (writeMapped s v r).tx = s.tx := by
  unfold writeMapped; split <;> rfl

/-- PACK alone writes a byte buffer (R72). -/
theorem CommandEffect.mem_eq_or_packed {s t : State} {i : Instr} (h : CommandEffect s i t) :
    t.mem = s.mem ∨ i = .pack ∧ t.mem = memInsertList (bufferBase .pktOut) (packHeader s.hdrIn) s.mem := by
  cases h with
  | packed => exact .inr ⟨rfl, rfl⟩
  | _ => exact .inl (by simp)

theorem CommandEffect.txLen_eq {s t : State} {i : Instr} (h : CommandEffect s i t) : t.txLen = s.txLen := by
  cases h <;> simp
theorem CommandEffect.rxNoDgram_eq {s t : State} {i : Instr} (h : CommandEffect s i t) : t.rxNoDgram = s.rxNoDgram := by
  cases h <;> simp
theorem CommandEffect.rxLen_eq {s t : State} {i : Instr} (h : CommandEffect s i t) : t.rxLen = s.rxLen := by
  cases h <;> simp
theorem CommandEffect.hdrIn_eq {s t : State} {i : Instr} (h : CommandEffect s i t) : t.hdrIn = s.hdrIn := by
  cases h <;> simp
theorem CommandEffect.cmd_eq {s t : State} {i : Instr} (h : CommandEffect s i t) : t.cmd = s.cmd := by
  cases h <;> simp
theorem CommandEffect.busOut_eq {s t : State} {i : Instr} (h : CommandEffect s i t) : t.busOut = s.busOut := by
  cases h <;> simp
theorem CommandEffect.input_eq {s t : State} {i : Instr} (h : CommandEffect s i t) : t.input = s.input := by
  cases h <;> simp
theorem CommandEffect.drawEpoch_eq {s t : State} {i : Instr} (h : CommandEffect s i t) : t.drawEpoch = s.drawEpoch := by
  cases h <;> simp

/-- A command changes no byte of a buffer, but for PACK those of PKT_OUT. -/
theorem CommandEffect.readByte_eq {s t : State} {i : Instr} (h : CommandEffect s i t) {a : Nat}
    (ha : i ≠ .pack ∨ a < 0x140 ∨ 0x160 ≤ a) : readByte t a = readByte s a := by
  obtain hmem | ⟨rfl, hmem⟩ := h.mem_eq_or_packed
  · exact readByte_congr hmem h.drawEpoch_eq a
  · have hout : ¬ (0x140 ≤ a ∧ a < 0x140 + (packHeader s.hdrIn).length) := by
      rw [packHeader_length]
      rcases ha with hne | hout
      · exact absurd rfl hne
      · omega
    calc readByte t a = readByte { s with mem := memInsertList 0x140 (packHeader s.hdrIn) s.mem } a :=
          readByte_congr (s := { s with mem := _ }) hmem h.drawEpoch_eq a
      _ = readByte s a := by rw [readByte_insertList, if_neg hout]

/-- Settles O47: each field is one that no command writes, and the buffers are written by PACK alone. -/
theorem commandsKeepOperandsAndBuffers : Obligations.CommandsKeepOperandsAndBuffers := by
  intro i s t h
  have heff := exec_effect h
  exact ⟨fun a ha => heff.readByte_eq ha, heff.txLen_eq, heff.rxNoDgram_eq, heff.rxLen_eq, heff.hdrIn_eq, heff.cmd_eq,
    heff.now_eq, heff.busOut_eq, heff.input_eq, heff.drawEpoch_eq⟩

/-! ### The bytes of a RESULT word (R221) -/

/-- The lanes of RESULT: the code, the two saturated counts, and nothing in the top lane. -/
theorem resultWord_eq_laneWord (code : ResultCode) (a b : Nat) :
    resultWord code a b = laneWord (codeByte code) (BitVec.ofNat 8 (min a 255)) (BitVec.ofNat 8 (min b 255)) 0 := by
  have hcount (n : Nat) : BitVec.ofNat 32 (min n 255) = (BitVec.ofNat 8 (min n 255)).setWidth 32 :=
    BitVec.eq_of_toNat_eq (by simp)
  rw [resultWord, laneWord, hcount a, hcount b]
  simp

theorem resultWord_lanes (code : ResultCode) (a b : Nat) :
    byteLane (resultWord code a b) 0 = codeByte code ∧ byteLane (resultWord code a b) 1 = BitVec.ofNat 8 (min a 255) ∧
    byteLane (resultWord code a b) 2 = BitVec.ofNat 8 (min b 255) ∧ byteLane (resultWord code a b) 3 = 0 := by
  rw [resultWord_eq_laneWord]
  exact byteLane_laneWord _ _ _ _

/-- The codes R221 lists for each command. -/
def listedCodes : Instr → List ResultCode
  | .pack | .sweep => [.ok]
  | .unpack => [.ok, .malformedPacket, .lengthError]
  | .connectTx | .disconnectTx => [.ok, .badState]
  | .connectRx => [.ok, .malformedPacket, .handshakeTimeout, .handshakeRejected, .badState, .lengthError]
  | .disconnectRx => [.ok, .disconnectNotAcknowledged, .disconnectPending, .badState, .lengthError]
  | .reviveTx => [.ok, .noSessionToRevive, .badState, .lengthError]
  | .reviveRx => [.ok, .malformedPacket, .reviveRejected, .badState, .lengthError]
  | .dataTx _ _ _ => [.ok, .windowExhausted, .badState, .lengthError]
  | .ackRx => [.ok, .malformedPacket, .notAck, .badState, .lengthError]

theorem rejectCodes_subset_listedCodes (i : Instr) : rejectCodes i ⊆ listedCodes i := by
  cases i <;> simp [rejectCodes, listedCodes]

theorem handshakeFailCodes_subset_listedCodes (i : Instr) : handshakeFailCodes i ⊆ listedCodes i := by
  cases i <;> simp [handshakeFailCodes, listedCodes]

theorem ok_mem_listedCodes (i : Instr) : .ok ∈ listedCodes i := by
  cases i <;> simp [listedCodes]

/-- Every command ends with `finish`, with a code listed for it and with counts where R221 gives them. -/
theorem CommandEffect.exists_result {s t : State} {i : Instr} (h : CommandEffect s i t) :
    ∃ code ∈ listedCodes i, ∃ a b, t.result = resultWord code a b ∧ (b ≠ 0 → i = .sweep) ∧
      (a ≠ 0 → i = .sweep ∨ i = .ackRx ∨ i = .disconnectRx) := by
  cases h with
  | rejected i code hcode => exact ⟨code, rejectCodes_subset_listedCodes i hcode, 0, 0, rfl, by simp, by simp⟩
  | handshakeFailed i code hcode =>
    exact ⟨code, handshakeFailCodes_subset_listedCodes i hcode, 0, 0, rfl, by simp, by simp⟩
  | disconnectPending => exact ⟨.disconnectPending, by simp [listedCodes], _, _, rfl, by simp, by simp⟩
  | disconnectGivenUp => exact ⟨.disconnectNotAcknowledged, by simp [listedCodes], _, _, rfl, by simp, by simp⟩
  | notAck => exact ⟨.notAck, by simp [listedCodes], _, _, rfl, by simp, by simp⟩
  | _ => exact ⟨.ok, ok_mem_listedCodes _, _, _, rfl, by simp, by simp⟩

/-- Settles O49: a command answers in every state, and the lanes of its RESULT are the code and the counts it finished with. -/
theorem eachCommandHasItsResultCodes : Obligations.EachCommandHasItsResultCodes := by
  intro i s
  obtain ⟨t, ht⟩ := exec_isNext i s
  obtain ⟨code, hcode, a, b, hresult, hb, ha⟩ := (exec_effect ht).exists_result
  obtain ⟨hlow, hcountA, hcountB, htop⟩ := hresult ▸ resultWord_lanes code a b
  have hlisted : codeByte code ∈ (listedCodes i).map codeByte := List.mem_map_of_mem hcode
  refine ⟨t, ht, htop, ?_, fun hne => hb ?_, fun hne => ha ?_⟩
  · rw [← hlow] at hlisted
    cases i <;> exact hlisted
  · rintro rfl
    exact hne hcountB
  · rintro rfl
    exact hne hcountA

/-! ### Errors are precise (R225) -/

/-- The code of RESULT is the one that `finish` was given. -/
theorem extractLsb'_finish_result (code : ResultCode) (a b : Nat) (s : State) :
    (finish code a b s).result.extractLsb' 0 8 = codeByte code :=
  (resultWord_lanes code a b).1

/-- The codes with which a command can finish after it changed more than RESULT: none of them is an error of R225. -/
theorem handshakeFailCodes_byte {i : Instr} {code : ResultCode} (h : code ∈ handshakeFailCodes i) :
    codeByte code ∉ ([0x06, 0x07, 0x0A, 0x0C, 0x08] : List Byte) := by
  cases i <;> simp only [handshakeFailCodes, List.mem_cons, List.not_mem_nil, or_false] at h
  · rcases h with rfl | rfl | rfl <;> decide
  · rcases h with rfl | rfl <;> decide

/-- Settles O48: a rejected command is `finish` alone, and every other end of a command has another code, but for NOT_ACK. -/
theorem errorsArePrecise : Obligations.ErrorsArePrecise := by
  intro i s t h
  cases exec_effect h with
  | rejected i code hcode => exact ⟨fun _ => rfl, fun _ => rfl⟩
  | notAck => exact ⟨fun hmem => absurd hmem (by rw [extractLsb'_finish_result]; decide), fun _ => rfl⟩
  | handshakeFailed i code hcode =>
    have hbyte := handshakeFailCodes_byte hcode
    rw [extractLsb'_finish_result]
    exact ⟨fun hmem => absurd (List.mem_append_left [0x08] hmem) hbyte, fun heq => absurd (by simp [heq]) hbyte⟩
  | swept =>
    have hbyte : (sweep Config.params s).result.extractLsb' 0 8 = codeByte .ok := extractLsb'_finish_result _ _ _ _
    rw [hbyte]
    exact ⟨fun hmem => absurd hmem (by decide), fun heq => absurd heq (by decide)⟩
  | _ =>
    rw [extractLsb'_finish_result]
    exact ⟨fun hmem => absurd hmem (by decide), fun heq => absurd heq (by decide)⟩

end Sys2Proof.Machine
end

section
/-! The invariants, part by part (10_state.md R29, R32 to R34, R24, 20_memory.md R54, R62): what keeps each through a command. -/

namespace Sys2Proof.Machine

open Sys2Proof

/-! ### The block's parameters (R9 to R12) -/

theorem params_ok : Config.params.Ok where
  rto_pos := Nat.le_add_left _ _
  rto_lt := Nat.succ_lt_succ Config.rtoTicksLessOne.isLt
  ceiling_le := Nat.le_of_lt_succ Config.retryCeilingByte.isLt
  slots_pos := Nat.le_add_left _ _
  slots_le := Config.nSlotsLessOne.isLt

/-! ### `bytesInFlight` (R29, R165) -/

section
variable {s t : State}

theorem BytesAccounted.of_same (hs : BytesAccounted s) (hbytes : t.bytesInFlight = s.bytesInFlight)
    (htable : t.inflight = s.inflight) : BytesAccounted t := by
  rw [BytesAccounted, hbytes, htable]
  exact hs

theorem BytesAccounted.of_empty (hbytes : t.bytesInFlight = 0) (htable : t.inflight = []) : BytesAccounted t := by
  rw [BytesAccounted, hbytes, htable]
  rfl

/-- Removing entries takes their lengths off the register, and no more than it holds. -/
theorem BytesAccounted.remove (hs : BytesAccounted s) (removed : Entry → Bool) :
    (s.bytesInFlight - BitVec.ofNat 16 (sumLen (s.inflight.filter removed))).toNat =
      sumLen (s.inflight.filter (fun e => !removed e)) := by
  have hsplit := sumLen_filter removed s.inflight
  have hall : s.bytesInFlight.toNat = sumLen s.inflight := hs
  have hlt := s.bytesInFlight.isLt
  rw [BitVec.toNat_sub, BitVec.toNat_ofNat]
  omega

@[simp] theorem newEntry_len (d : List Byte) (seq : Word) (len : Nat) (now : Word) : (newEntry d seq len now).len = len := rfl

theorem sumLen_append (es : List Entry) (e : Entry) : sumLen (es ++ [e]) = sumLen es + e.len := by
  simp [sumLen]

/-- Resending changes no length. -/
theorem sumLen_sweepTable (p : Params) (now : Word) (es : List Entry) :
    sumLen (sweepTable p now es).table = sumLen (es.filter (fun e => !sweepDrops p now e)) := by
  have hlen (e : Entry) : (if sweepResends p now e then resent now e else e).len = e.len := by split <;> rfl
  rw [sweepTable_table, sumLen, List.map_map, sumLen]
  exact congrArg List.sum (List.map_congr_left fun e _ => hlen e)

theorem CommandEffect.bytesAccounted {i : Instr} (h : CommandEffect s i t) (hs : BytesAccounted s) : BytesAccounted t := by
  cases h with
  | dataSent mf fid fo hst hlen hroom =>
    have hfits := dataAdmits_no_wrap hroom
    have hall : s.bytesInFlight.toNat = sumLen s.inflight := hs
    show (s.bytesInFlight + BitVec.ofNat 16 (txLength s)).toNat = sumLen (s.inflight ++ [newEntry _ _ _ _])
    rw [sumLen_append, newEntry_len, BitVec.toNat_add, BitVec.toNat_ofNat]
    omega
  | acked => exact hs.remove _
  | swept =>
    show (s.bytesInFlight - BitVec.ofNat 16 (sweepTable _ _ _).droppedLens.sum).toNat = sumLen (sweepTable _ _ _).table
    rw [sumLen_sweepTable, sweepTable_droppedLens]
    exact hs.remove _
  | handshakeDone | disconnectDone => exact .of_empty rfl rfl
  | rejected | packed | unpacked | connectSent | teardownSent | reviveSent | handshakeFailed | disconnectPending
  | disconnectGivenUp | notAck => exact hs.of_same (by simp) (by simp)

end

/-- Settles O40: the effect of the command a step runs, or the port event it serves. -/
theorem stepKeepsBytesAccounted : Obligations.StepKeepsBytesAccounted := by
  intro s t hs h
  cases step_effect h with
  | command rest w i t hin hdec hexec => exact (exec_effect hexec).bytesAccounted hs
  | reset => exact .of_empty rfl rfl
  | idle | tick | read | illegal | store | unmapped => exact hs.of_same (by simp) (by simp)

/-! ### The table (R32 to R34) -/

section
variable {s t : State} {p : Params}

theorem TableOk.of_same (hs : TableOk p s) (htable : t.inflight = s.inflight) : TableOk p t := by
  rw [TableOk, htable]
  exact hs

theorem TableOk.of_empty (htable : t.inflight = []) : TableOk p t := by
  simp [TableOk, htable]

/-- The entry of a datagram just sent is as R32 and R33 say. -/
theorem newEntry_ok (h : Header) {payload : List Byte} (hlen : payload.length ≤ 1440) (now : Word) :
    EntryOk p (newEntry (packHeader h ++ payload) h.seq payload.length now) where
  seq_in_bytes := (rd32_seq_of_packet h payload).symm
  bytes_length := by simp [newEntry]
  len_le := hlen
  retries_le := Nat.zero_le _

/-- An entry below the ceiling may be resent once more: its count neither passes the ceiling nor wraps. -/
theorem EntryOk.resent {e : Entry} (he : EntryOk p e) (hp : p.Ok) {now : Word} (hbelow : atCeiling p e = false) :
    EntryOk p (resent now e) where
  seq_in_bytes := he.seq_in_bytes
  bytes_length := he.bytes_length
  len_le := he.len_le
  retries_le := by
    have hlt : e.retries.toNat < p.retryCeiling := by simpa [atCeiling] using hbelow
    have hmax := hp.ceiling_le
    have hcount : (e.retries + 1).toNat = e.retries.toNat + 1 := BitVec.toNat_add_of_lt (by simp; omega)
    show (e.retries + 1).toNat ≤ p.retryCeiling
    omega

theorem sweepTable_ok {now : Word} {es : List Entry} (hp : p.Ok) (hes : ∀ e ∈ es, EntryOk p e) :
    ∀ e ∈ (sweepTable p now es).table, EntryOk p e := by
  intro e he
  rw [sweepTable_table] at he
  obtain ⟨e', he', rfl⟩ := List.mem_map.mp he
  have hok := hes e' (List.mem_of_mem_filter he')
  split
  · next hresends => exact hok.resent hp (by simp_all [sweepResends])
  · exact hok

theorem sweepTable_length_le (now : Word) (es : List Entry) : (sweepTable p now es).table.length ≤ es.length := by
  rw [sweepTable_table, List.length_map]
  exact List.length_filter_le _ _

theorem txPayloadBytes_length (s : State) : (txPayloadBytes s).length = txLength s := readBytes_length _ _ _

theorem txLength_le (hlen : txTooLong s = false) : txLength s ≤ 1440 := by
  rw [← Bool.not_eq_true, txTooLong_iff] at hlen
  exact Nat.le_of_not_lt hlen

theorem CommandEffect.tableOk {i : Instr} (h : CommandEffect s i t) (hs : TableOk Config.params s) :
    TableOk Config.params t := by
  obtain ⟨hslots, hentries⟩ := id hs
  cases h with
  | dataSent mf fid fo hst hlen hroom =>
    obtain ⟨-, hfree⟩ := (dataAdmits_iff _ _ _).mp hroom
    refine ⟨by simpa using hfree, fun e he => ?_⟩
    rcases List.mem_append.mp he with hold | hnew
    · exact hentries e hold
    · obtain rfl := List.mem_singleton.mp hnew
      have hnew := newEntry_ok (p := Config.params) (dataHeader Config.params mf fid fo s) (payload := txPayloadBytes s)
        (by rw [txPayloadBytes_length]; exact txLength_le hlen) s.now
      rwa [txPayloadBytes_length] at hnew
  | acked => exact ⟨(List.length_filter_le _ _).trans hslots, fun e he => hentries e (List.mem_of_mem_filter he)⟩
  | swept => exact ⟨(sweepTable_length_le _ _).trans hslots, sweepTable_ok params_ok hentries⟩
  | handshakeDone | disconnectDone => exact .of_empty rfl
  | rejected | packed | unpacked | connectSent | teardownSent | reviveSent | handshakeFailed | disconnectPending
  | disconnectGivenUp | notAck => exact hs.of_same (by simp)

/-- A session that is not active has no entry (R34). -/
theorem CommandEffect.tableQuiet {i : Instr} (h : CommandEffect s i t) (hs : TableQuiet s) : TableQuiet t := by
  intro hquiet
  cases h with
  | handshakeDone | disconnectDone => rfl
  | swept => simp [hs hquiet, sweepTable]
  | dataSent mf fid fo hst => simp [hst] at hquiet
  | notAck hst | acked hst => simp [hst] at hquiet
  | teardownSent | disconnectGivenUp => simp at hquiet
  | disconnectPending hst => simp [hst] at hquiet
  | connectSent hst => simp [hs (.inl hst)]
  | reviveSent _ hst => simp [hs (.inl hst)]
  | handshakeFailed _ _ _ hst => simp [hs (.inr hst)]
  | rejected | packed | unpacked => simpa using hs (by simpa using hquiet)

/-! ### The TX port (R62) -/

theorem TxOk.append (hs : TxOk s) {ds : List (List Byte)} (hds : ∀ d ∈ ds, 32 ≤ d.length ∧ d.length ≤ 1472)
    (htx : t.tx = s.tx ++ ds) : TxOk t := by
  intro d hd
  rw [htx] at hd
  rcases List.mem_append.mp hd with hold | hnew
  · exact hs d hold
  · exact hds d hnew

/-- One datagram more, a header and at most 1440 bytes. -/
theorem TxOk.append_packet (hs : TxOk s) (h : Header) {payload : List Byte} (hlen : payload.length ≤ 1440)
    (htx : t.tx = s.tx ++ [packHeader h ++ payload]) : TxOk t := by
  refine hs.append (fun d hd => ?_) htx
  obtain rfl := List.mem_singleton.mp hd
  rw [List.length_append, packHeader_length]
  omega

theorem CommandEffect.txOk {i : Instr} (h : CommandEffect s i t) (hs : TxOk s) (htable : TableOk p s) : TxOk t := by
  obtain ⟨-, hentries⟩ := htable
  have hpayload (hlen : txTooLong s = false) : (txPayloadBytes s).length ≤ 1440 := by
    rw [txPayloadBytes_length]
    exact txLength_le hlen
  cases h with
  | connectSent | teardownSent => exact hs.append_packet _ (payload := []) (Nat.zero_le _) (by rw [List.append_nil]; rfl)
  | reviveSent hsaved hst hlen => exact hs.append_packet _ (hpayload hlen) rfl
  | dataSent mf fid fo hst hlen => exact hs.append_packet _ (hpayload hlen) rfl
  | swept =>
    refine hs.append (fun d hd => ?_) (sweep_tx _ _)
    obtain ⟨e, he, rfl⟩ := mem_table_of_mem_sent hd
    have hok := hentries e he
    have hbytes := hok.bytes_length
    have hlen := hok.len_le
    omega
  | _ => exact hs.append (ds := []) (by simp) (by simp)

/-! ### The attempts of a Disconnect (R24, R134) -/

theorem CommandEffect.attemptsOk {i : Instr} (h : CommandEffect s i t) (hs : AttemptsOk s) : AttemptsOk t := by
  obtain ⟨hmax, hidle⟩ := id hs
  cases h with
  | disconnectPending hst hn =>
    have hcount : (s.discAttempts + 1).toNat ≤ 2 := by
      rw [discAttemptLimit] at hn
      omega
    exact ⟨hcount, fun hne => absurd (by simpa using hst) hne⟩
  | teardownSent | disconnectGivenUp | disconnectDone => exact ⟨Nat.zero_le _, fun _ => rfl⟩
  | connectSent hst => exact ⟨hmax, fun _ => hidle (by simp [hst])⟩
  | reviveSent _ hst => exact ⟨hmax, fun _ => hidle (by simp [hst])⟩
  | handshakeDone _ _ hst => exact ⟨by simpa using hmax, fun _ => by simpa using hidle (by simp [hst])⟩
  | handshakeFailed _ _ _ hst => exact ⟨by simpa using hmax, fun _ => by simpa using hidle (by simp [hst])⟩
  | rejected | packed | unpacked | dataSent | notAck | acked | swept =>
    exact ⟨by simpa using hmax, fun hne => by simpa using hidle (by simpa using hne)⟩

end

end Sys2Proof.Machine
end

section
/-! The canonical form of the memory (20_memory.md R51, R54) and the whole invariant: they hold at reset, and every step keeps
them. -/

namespace Sys2Proof.Machine

open Sys2Proof

/-! ### The memory lists bytes of the buffers only -/

theorem mapped_of_mem_buffer {a : Nat} (b : BufferName) (hlo : bufferBase b ≤ a) (hhi : a < bufferBase b + bufferLen b) :
    Memory.mapped a = true := by
  cases b <;> simp only [bufferBase, bufferLen] at hlo hhi <;> simp [Memory.mapped] <;> omega

theorem mem_fixedWords_of_lookup {off : Nat} {w : MappedWord} (h : fixedWords.lookup off = some w) : (off, w) ∈ fixedWords := by
  obtain ⟨front, back, hsplit, -⟩ := List.lookup_eq_some_iff.mp h
  simp [hsplit]

/-- An offset that names word `k` of a buffer lies inside it, and so does the whole word. -/
theorem bufferWord_fits_of_mapped {off : Nat} {b : BufferName} {k : Nat} (hmap : mappedWord off = some (.buffer b k)) :
    4 * k + 4 ≤ bufferLen b := by
  unfold mappedWord at hmap
  split at hmap
  · next w hw =>
    obtain rfl : w = .buffer b k := Option.some.inj hmap
    exact absurd (mem_fixedWords_of_lookup hw) (by simp [fixedWords])
  · cases hmap
  · next b' _ _ hbuf =>
    obtain ⟨rfl, rfl⟩ : b' = b ∧ (off - bufferBase b') / 4 = k := by simpa using hmap
    have hin := List.find?_some hbuf
    have hwords : bufferLen b' % 4 = 0 := by cases b' <;> rfl
    simp only [decide_eq_true_eq] at hin
    omega
  · cases hmap

/-- A store leaves the memory or writes one word of a buffer. -/
theorem writeMapped_mem_cases (s : State) (v : Word) (r : MappedWord) :
    (writeMapped s v r).mem = s.mem ∨
    ∃ b k, r = .buffer b k ∧ (writeMapped s v r).mem = memInsertList (bufferBase b + 4 * k) (wordLanes v) s.mem := by
  unfold writeMapped
  split
  case h_5 k | h_6 k => exact .inr ⟨_, k, rfl, rfl⟩
  all_goals exact .inl rfl

theorem writeMapped_mem_wf {s : State} {off : Nat} {r : MappedWord} (hs : Memory.wf s.mem = true)
    (hmap : mappedWord off = some r) (v : Word) : Memory.wf (writeMapped s v r).mem = true := by
  obtain hmem | ⟨b, k, rfl, hmem⟩ := writeMapped_mem_cases s v r
  · rw [hmem]
    exact hs
  · have hfits := bufferWord_fits_of_mapped hmap
    rw [hmem]
    refine memInsertList_wf _ _ _ (fun j hj => ?_) hs
    rw [wordLanes_length] at hj
    exact mapped_of_mem_buffer b (by omega) (by omega)

theorem CommandEffect.mem_wf {s t : State} {i : Instr} (h : CommandEffect s i t) (hs : Memory.wf s.mem = true) :
    Memory.wf t.mem = true := by
  obtain hmem | ⟨-, hmem⟩ := h.mem_eq_or_packed
  · rw [hmem]
    exact hs
  · rw [hmem]
    refine memInsertList_wf _ _ _ (fun j hj => ?_) hs
    rw [packHeader_length] at hj
    exact mapped_of_mem_buffer .pktOut (Nat.le_add_right _ _) (Nat.add_lt_add_left hj _)

/-- Settles O43: PACK and the stores write inside the buffers, and nothing else but the reset input reaches the memory. -/
theorem stepKeepsTheMemoryCanonical : Obligations.StepKeepsTheMemoryCanonical := by
  intro s t hs h
  cases step_effect h with
  | command rest w i t hin hdec hexec => exact (exec_effect hexec).mem_wf hs
  | store rest off w r hin hmap => exact writeMapped_mem_wf (s := { s with input := rest }) hs hmap w
  | reset => exact reset_mem_wf
  | idle | tick | read | illegal | unmapped => simpa using hs

/-! ### RESULT and HDR_OUT_PLEN (R118, R221) -/

theorem codeByte_toNat_le {code : ResultCode} (hcode : code ≠ .none) : (codeByte code).toNat ≤ 0x0C := by
  cases code with
  | none => exact absurd rfl hcode
  | _ => decide

theorem resultOk_of_finish {t : State} {code : ResultCode} {a b : Nat} (hresult : t.result = resultWord code a b)
    (hcode : code ≠ .none) : ResultOk t := by
  obtain ⟨hlow, -, -, htop⟩ := resultWord_lanes code a b
  rw [ResultOk, hresult]
  refine ⟨htop, .inl ?_⟩
  calc ((resultWord code a b).extractLsb' 0 8).toNat = (codeByte code).toNat := congrArg _ hlow
    _ ≤ 0x0C := codeByte_toNat_le hcode

theorem none_notMem_listedCodes (i : Instr) : .none ∉ listedCodes i := by
  cases i <;> simp [listedCodes]

theorem CommandEffect.resultOk {s t : State} {i : Instr} (h : CommandEffect s i t) : ResultOk t := by
  obtain ⟨code, hcode, a, b, hresult, -, -⟩ := h.exists_result
  exact resultOk_of_finish hresult (ne_of_mem_of_not_mem hcode (none_notMem_listedCodes i))

theorem RxDecodes.hdrOutPlen_le {s : State} (hrx : RxDecodes s) : (withDecoded s).hdrOutPlen.toNat ≤ 1440 := by
  obtain ⟨-, -, hmax⟩ := hrx
  rw [withDecoded_hdrOutPlen, BitVec.toNat_ofNat]
  omega

theorem rxDecoded_hdrOutPlen_le {s : State} (hs : s.hdrOutPlen.toNat ≤ 1440) : (rxDecoded s).hdrOutPlen.toNat ≤ 1440 := by
  by_cases hrx : RxDecodes s
  · rw [rxDecoded_decodes hrx]
    exact hrx.hdrOutPlen_le
  · rwa [rxDecoded_of_no_header fun _ _ hok => hrx (rxResult_ok hok).1]

theorem CommandEffect.hdrOutPlen_le {s t : State} {i : Instr} (h : CommandEffect s i t) (hs : s.hdrOutPlen.toNat ≤ 1440) :
    t.hdrOutPlen.toNat ≤ 1440 := by
  cases h with
  | unpacked hrx => exact hrx.hdrOutPlen_le
  | handshakeDone _ _ _ hrx => exact hrx.hdrOutPlen_le
  | disconnectDone _ hrx => exact hrx.hdrOutPlen_le
  | notAck _ hrx => exact hrx.hdrOutPlen_le
  | acked _ hrx => exact hrx.hdrOutPlen_le
  | handshakeFailed | disconnectPending | disconnectGivenUp => exact rxDecoded_hdrOutPlen_le hs
  | rejected | packed | connectSent | teardownSent | reviveSent | dataSent | swept => exact hs

/-! ### The whole invariant -/

/-- The fields the invariant reads, besides RESULT and the memory, are the same in both states. -/
structure SameSession (s t : State) : Prop where
  hsState : t.hsState = s.hsState
  discAttempts : t.discAttempts = s.discAttempts
  bytesInFlight : t.bytesInFlight = s.bytesInFlight
  inflight : t.inflight = s.inflight
  tx : t.tx = s.tx
  hdrOutPlen : t.hdrOutPlen = s.hdrOutPlen

/-- The invariant reads nothing else. -/
theorem Inv.of_same {s t : State} (hs : Inv s) (hsame : SameSession s t) (hresult : ResultOk t)
    (hmem : Memory.wf t.mem = true) : Inv t where
  bytes := hs.bytes.of_same hsame.bytesInFlight hsame.inflight
  table := hs.table.of_same hsame.inflight
  quiet := by
    rw [TableQuiet, hsame.hsState, hsame.inflight]
    exact hs.quiet
  tx := by
    rw [TxOk, hsame.tx]
    exact hs.tx
  attempts := by
    rw [AttemptsOk, hsame.hsState, hsame.discAttempts]
    exact hs.attempts
  result := hresult
  plen := by
    rw [hsame.hdrOutPlen]
    exact hs.plen
  mem := hmem

theorem CommandEffect.inv {s t : State} {i : Instr} (h : CommandEffect s i t) (hs : Inv s) : Inv t where
  bytes := h.bytesAccounted hs.bytes
  table := h.tableOk hs.table
  quiet := h.tableQuiet hs.quiet
  tx := h.txOk hs.tx hs.table
  attempts := h.attemptsOk hs.attempts
  result := h.resultOk
  plen := h.hdrOutPlen_le hs.plen
  mem := h.mem_wf hs.mem

/-- Settles O42: at reset the table and the TX port are empty, RESULT is NONE, and every counter is 0. -/
theorem resetHasTheInvariant : Obligations.ResetHasTheInvariant where
  bytes := .of_empty rfl rfl
  table := .of_empty rfl
  quiet := fun _ => rfl
  tx := fun _ hd => absurd hd List.not_mem_nil
  attempts := ⟨Nat.zero_le _, fun _ => rfl⟩
  result := ⟨by decide, .inr rfl⟩
  plen := Nat.zero_le _
  mem := reset_mem_wf

/-- Settles O41: a command keeps each part by its effect; every other step but a reset leaves what the invariant reads, with a
RESULT and a memory of the right form. -/
theorem stepKeepsTheInvariant : Obligations.StepKeepsTheInvariant := by
  intro s t hs h
  have hmem := stepKeepsTheMemoryCanonical s t hs.mem h
  cases step_effect h with
  | command rest w i t hin hdec hexec =>
    exact (exec_effect hexec).inv (hs.of_same ⟨rfl, rfl, rfl, rfl, rfl, rfl⟩ hs.result hs.mem)
  | reset => exact resetHasTheInvariant.of_same ⟨rfl, rfl, rfl, rfl, rfl, rfl⟩ resetHasTheInvariant.result hmem
  | illegal => exact hs.of_same ⟨rfl, rfl, rfl, rfl, rfl, rfl⟩ (resultOk_of_finish rfl nofun) hmem
  | store => exact hs.of_same (by constructor <;> simp) (by simpa [ResultOk] using hs.result) hmem
  | idle | tick | read | unmapped => exact hs.of_same ⟨rfl, rfl, rfl, rfl, rfl, rfl⟩ hs.result hmem

end Sys2Proof.Machine
end

section
/-! The handshake's transitions (41_session.md R134, R138), the empty fragment over a shrunk window (42_scheduler.md R163), and
what a received payload has no part in (93_implementation_defined.md section 1). -/

namespace Sys2Proof.Machine

open Sys2Proof

/-! ### Transitions of `hsState` (R138) -/

/-- The words with which a handshake reply ends the handshake in DISCONNECTED. -/
theorem resultWord_of_handshakeFailCodes {i : Instr} {code : ResultCode} (hcode : code ∈ handshakeFailCodes i) :
    (i = .connectRx ∨ i = .reviveRx) ∧ resultWord code 0 0 ∈ ([0x01, 0x02, 0x03, 0x05] : List Word) := by
  cases i <;> simp only [handshakeFailCodes, List.mem_cons, List.not_mem_nil, or_false] at hcode
  · rcases hcode with rfl | rfl | rfl <;> decide
  · rcases hcode with rfl | rfl <;> decide

/-- A reply command changes `hsState` only in the exchange it completes (R132, R136). -/
theorem reply_completes_own_exchange {i : Instr} {s t : State} (hi : i = .connectRx ∨ i = .reviveRx)
    (h : exec i s = .next t) :
    t.hsState = s.hsState ∨ (i = .connectRx ∧ s.pendingKind = .connect ∨ i = .reviveRx ∧ s.pendingKind = .revive) := by
  rcases hi with rfl | rfl
  · by_cases hst : s.hsState = .connecting ∧ s.pendingKind = .connect
    · exact .inr (.inl ⟨rfl, hst.2⟩)
    · rw [exec_connectRx_of_badState hst] at h
      obtain rfl := Host.Outcome.next.inj h
      exact .inl rfl
  · by_cases hst : s.hsState = .connecting ∧ s.pendingKind = .revive
    · exact .inr (.inr ⟨rfl, hst.2⟩)
    · rw [exec_reviveRx_of_badState hst] at h
      obtain rfl := Host.Outcome.next.inj h
      exact .inl rfl

/-- Settles O31: the commands by what each does with `hsState`; a reply command that changes it completes its own exchange. -/
theorem handshakeTransitions : Obligations.HandshakeTransitions := by
  intro i s t h
  cases exec_effect h with
  | connectSent hst => exact .inr (.inl ⟨hst, rfl, rfl, rfl, rfl⟩)
  | reviveSent hsaved hst => exact .inr (.inr (.inl ⟨hst, rfl, hsaved, rfl, rfl, rfl⟩))
  | handshakeDone i hi hst =>
    exact (reply_completes_own_exchange hi h).imp_right fun hown => .inr (.inr (.inl ⟨hst, hown, .inl ⟨rfl, rfl⟩⟩))
  | handshakeFailed i code hcode hst =>
    obtain ⟨hi, hword⟩ := resultWord_of_handshakeFailCodes hcode
    exact (reply_completes_own_exchange hi h).imp_right fun hown => .inr (.inr (.inl ⟨hst, hown, .inr ⟨hword, rfl⟩⟩))
  | teardownSent hst => exact .inr (.inr (.inr (.inr (.inl ⟨hst, rfl, rfl, rfl⟩))))
  | disconnectDone hst => exact .inr (.inr (.inr (.inr (.inr ⟨hst, rfl, .inl ⟨rfl, rfl, rfl, rfl⟩⟩))))
  | disconnectGivenUp hst => exact .inr (.inr (.inr (.inr (.inr ⟨hst, rfl, .inr ⟨rfl, rfl⟩⟩))))
  | rejected | packed | unpacked | dataSent | disconnectPending | notAck | acked | swept => exact .inl (by simp)

/-- Settles O32: the three attempts that R134 counts, one after the other. -/
theorem threeSilentAttemptsLeaveTheSessionActive : Obligations.ThreeSilentAttemptsLeaveTheSessionActive := by
  intro s hst hcount hsilent
  obtain ⟨-, hcases⟩ := disconnectRxConsumesOneAttempt
  have hsilentAttempt (u : State) (hst : u.hsState = .disconnecting) (hno : u.rxNoDgram = true) :=
    let ⟨_, _, _, hfailed⟩ := hcases u
    hfailed u hst (.inl ⟨.inl hno, rfl⟩)
  obtain ⟨hfirst, -, -⟩ := hsilentAttempt s hst hsilent
  obtain ⟨-, hsecond, -⟩ := hsilentAttempt { s with discAttempts := 1, result := 0x00000109#32 } hst hsilent
  obtain ⟨-, -, hthird⟩ := hsilentAttempt { s with discAttempts := 2, result := 0x00000209#32 } hst hsilent
  exact ⟨_, _, _, hfirst hcount, hsecond rfl, hthird rfl, rfl, rfl, by rw [← hcount]⟩

/-! ### An empty fragment while the window is overrun (R163, log entry 14) -/

/-- In this one case the free value alone decides. -/
theorem dataAdmits_empty_over_window {p : Params} {s : State} (hover : s.peerWindow.toNat < s.bytesInFlight.toNat)
    (hroom : s.inflight.length < p.nSlots) : dataAdmits p s 0 = p.emptyOverWindow := by
  rw [Bool.eq_iff_iff, dataAdmits_iff]
  refine ⟨fun ⟨hwin, _⟩ => ?_, fun hfree => ⟨.inr ⟨rfl, hfree⟩, hroom⟩⟩
  rcases hwin with hfits | ⟨-, hfree⟩
  · exact absurd hfits (by omega)
  · exact hfree

/-- Settles O34: the free value decides the admission, and an empty payload adds nothing to the datagram or the register. -/
theorem emptyFragmentOverShrunkWindow : Obligations.EmptyFragmentOverShrunkWindow := by
  intro mf fid fo s d hst hempty hover hroom hd
  have hlength : txLength s = 0 := by rw [txLength, hempty]; rfl
  have hfits : ¬ txTooLong s = true := by rw [txTooLong_iff, hempty]; decide
  have hdecides : dataAdmits Config.params s (txLength s) = Config.params.emptyOverWindow := by
    rw [hlength, dataAdmits_empty_over_window hover hroom]
  have hdatagram : dataDatagram mf fid fo s = d := by
    rw [dataDatagram_eq, hd, hempty]
    exact List.append_nil _
  by_cases hfree : Config.params.emptyOverWindow = true
  · rw [exec_dataTx_of_admitted hst hfits (hdecides.trans hfree), if_pos hfree, hdatagram, hlength, BitVec.add_zero]
    rfl
  · rw [exec_dataTx_of_refused hst hfits (by rwa [hdecides]), if_neg hfree]
    rfl

/-! ### A received payload affects nothing -/

theorem rd32_congr {b b' : List Byte} {o : Nat} (h : ∀ j < 4, byteAt b (o + j) = byteAt b' (o + j)) :
    rd32 b o = rd32 b' o := by
  rw [rd32, rd32, h 1 (by decide), h 2 (by decide), h 3 (by decide)]
  exact congrArg (laneWord · _ _ _) (h 0 (by decide))

/-- A header is made of the first 32 bytes alone (R81, R114). -/
theorem headerOfBytes_congr {b b' : List Byte} (h : ∀ k < 32, byteAt b k = byteAt b' k) :
    headerOfBytes b = headerOfBytes b' := by
  have hword (o : Nat) (ho : o + 4 ≤ 32) : rd32 b o = rd32 b' o := rd32_congr fun j hj => h (o + j) (by omega)
  have hsid : sidOfBytes b = sidOfBytes b' :=
    congrArg Vector.ofFn (funext fun j => h j.val (by omega))
  have hwnd : rd16 b 28 = rd16 b' 28 := by rw [rd16, rd16, h 28 (by decide), h 29 (by decide)]
  rw [headerOfBytes, headerOfBytes, hsid, hword 16 (by decide), hword 20 (by decide), hword 24 (by decide), hwnd,
    h 30 (by decide), h 31 (by decide)]

/-- The state `s` with the memory `m` in place of its own. -/
def withMemory (s : State) (m : Memory) : State := { s with mem := m }

section
variable {s : State} {m : Memory}

/-- The buffers of `s` and the memory `m` agree on the 32 header bytes of RX_BUF. -/
def AgreeOnHeader (s : State) (m : Memory) : Prop :=
  ∀ a, 0x1000 ≤ a → a < 0x1020 → readByte (withMemory s m) a = readByte s a

theorem AgreeOnHeader.rxHeader_eq (hm : AgreeOnHeader s m) (hrx : RxDecodes s) : rxHeader (withMemory s m) = rxHeader s := by
  obtain ⟨-, hlong, -⟩ := hrx
  refine headerOfBytes_congr fun k hk => ?_
  have hin : k < s.rxLen.toNat := Nat.lt_of_lt_of_le hk hlong
  calc byteAt (readBytes (withMemory s m) 0x1000 s.rxLen.toNat) k
      = readByte (withMemory s m) (0x1000 + k) := byteAt_readBytes _ _ hin
    _ = readByte s (0x1000 + k) := hm _ (by omega) (by omega)
    _ = byteAt (readBytes s 0x1000 s.rxLen.toNat) k := (byteAt_readBytes _ _ hin).symm

theorem AgreeOnHeader.withDecoded_eq (hm : AgreeOnHeader s m) (hrx : RxDecodes s) :
    withDecoded (withMemory s m) = withMemory (withDecoded s) m := by
  rw [withDecoded, hm.rxHeader_eq hrx]
  rfl

/-- Command `i` does on the memory `m` what it does on that of `s`. -/
def IgnoresMemory (i : Instr) (s : State) (m : Memory) : Prop :=
  ∀ t, exec i s = .next t → exec i (withMemory s m) = .next (withMemory t m)

theorem IgnoresMemory.intro {i : Instr} {u v : State} (hs : exec i s = .next u) (hm : exec i (withMemory s m) = .next v)
    (huv : v = withMemory u m) : IgnoresMemory i s m := by
  intro t ht
  obtain rfl := Host.Outcome.next.inj (hs.symm.trans ht)
  rw [hm, huv]

theorem unpack_ignoresMemory (hm : AgreeOnHeader s m) : IgnoresMemory .unpack s m := by
  rcases rx_cases s with hno | hlong | hshort | hrx
  · have hr {u : State} (hu : u.rxNoDgram = true) := exec_unpack_of_malformed (.inl (rxResult_noDgram hu))
    exact .intro (hr hno) (hr hno) rfl
  · exact .intro (exec_unpack_of_tooLong hlong) (exec_unpack_of_tooLong hlong) rfl
  · have hr {u : State} (hu : RxShort u) := exec_unpack_of_malformed (.inr (rxResult_short hu))
    exact .intro (hr hshort) (hr hshort) rfl
  · exact .intro (exec_unpack_of_decodes hrx) (exec_unpack_of_decodes hrx) (congrArg _ (hm.withDecoded_eq hrx))

/-- The two handshake replies read the same of a datagram. -/
theorem AgreeOnHeader.answerReply_eq (hm : AgreeOnHeader s m) (silence refusal : ResultCode) (accepts : Header → Bool) :
    answerReply silence refusal accepts (withMemory s m) = withMemory (answerReply silence refusal accepts s) m := by
  rcases rx_cases s with hno | hlong | hshort | hrx
  · rw [answerReply_noDgram hno, answerReply_noDgram (s := withMemory s m) hno]; rfl
  · rw [answerReply_tooLong hlong, answerReply_tooLong (s := withMemory s m) hlong]; rfl
  · rw [answerReply_short hshort, answerReply_short (s := withMemory s m) hshort]; rfl
  · have hheader := hm.rxHeader_eq hrx
    by_cases hacc : accepts (rxHeader s) = true
    · rw [answerReply_accepted hrx hacc, answerReply_accepted (s := withMemory s m) hrx (by rwa [hheader]), hheader,
        hm.withDecoded_eq hrx]
      rfl
    · rw [answerReply_refused hrx hacc, answerReply_refused (s := withMemory s m) hrx (by rwa [hheader]),
        hm.withDecoded_eq hrx]
      rfl

theorem connectRx_ignoresMemory (hm : AgreeOnHeader s m) : IgnoresMemory .connectRx s m := by
  by_cases hst : s.hsState = .connecting ∧ s.pendingKind = .connect
  · obtain ⟨hst, hkind⟩ := hst
    exact .intro (exec_connectRx_of_awaiting hst hkind) (exec_connectRx_of_awaiting (s := withMemory s m) hst hkind)
      (hm.answerReply_eq _ _ _)
  · exact .intro (exec_connectRx_of_badState hst) (exec_connectRx_of_badState (s := withMemory s m) hst) rfl

theorem reviveRx_ignoresMemory (hm : AgreeOnHeader s m) : IgnoresMemory .reviveRx s m := by
  by_cases hst : s.hsState = .connecting ∧ s.pendingKind = .revive
  · obtain ⟨hst, hkind⟩ := hst
    exact .intro (exec_reviveRx_of_awaiting hst hkind) (exec_reviveRx_of_awaiting (s := withMemory s m) hst hkind)
      (hm.answerReply_eq _ _ _)
  · exact .intro (exec_reviveRx_of_badState hst) (exec_reviveRx_of_badState (s := withMemory s m) hst) rfl

theorem failDisconnectAttempt_withMemory (s : State) (m : Memory) :
    failDisconnectAttempt (withMemory s m) = withMemory (failDisconnectAttempt s) m := by
  by_cases hn : (s.discAttempts + 1).toNat = discAttemptLimit
  · rw [failDisconnectAttempt_last hn, failDisconnectAttempt_last (s := withMemory s m) hn]; rfl
  · rw [failDisconnectAttempt_pending hn, failDisconnectAttempt_pending (s := withMemory s m) hn]; rfl

theorem disconnectRx_ignoresMemory (hm : AgreeOnHeader s m) : IgnoresMemory .disconnectRx s m := by
  by_cases hst : s.hsState = .disconnecting
  · have hsilent (hno : s.rxNoDgram = true ∨ RxShort s) : IgnoresMemory .disconnectRx s m :=
      .intro (exec_disconnectRx_of_no_header hst hno) (exec_disconnectRx_of_no_header (s := withMemory s m) hst hno)
        (failDisconnectAttempt_withMemory s m)
    rcases rx_cases s with hno | hlong | hshort | hrx
    · exact hsilent (.inl hno)
    · exact .intro (exec_disconnectRx_of_tooLong hst hlong) (exec_disconnectRx_of_tooLong (s := withMemory s m) hst hlong) rfl
    · exact hsilent (.inr hshort)
    · have hheader := hm.rxHeader_eq hrx
      cases hack : hasAck (rxHeader s) with
      | true =>
        refine .intro (exec_disconnectRx_of_ack hst hrx hack)
          (exec_disconnectRx_of_ack (s := withMemory s m) hst hrx (by rwa [hheader])) ?_
        rw [hm.withDecoded_eq hrx]
        rfl
      | false =>
        refine .intro (exec_disconnectRx_of_not_ack hst hrx hack)
          (exec_disconnectRx_of_not_ack (s := withMemory s m) hst hrx (by rwa [hheader])) ?_
        rw [hm.withDecoded_eq hrx, failDisconnectAttempt_withMemory]
  · exact .intro (exec_disconnectRx_of_badState hst) (exec_disconnectRx_of_badState (s := withMemory s m) hst) rfl

theorem ackRx_ignoresMemory (hm : AgreeOnHeader s m) : IgnoresMemory .ackRx s m := by
  by_cases hst : s.hsState = .connected
  · have hsilent (hno : s.rxNoDgram = true ∨ RxShort s) : IgnoresMemory .ackRx s m :=
      .intro (exec_ackRx_of_no_header hst hno) (exec_ackRx_of_no_header (s := withMemory s m) hst hno) rfl
    rcases rx_cases s with hno | hlong | hshort | hrx
    · exact hsilent (.inl hno)
    · exact .intro (exec_ackRx_of_tooLong hst hlong) (exec_ackRx_of_tooLong (s := withMemory s m) hst hlong) rfl
    · exact hsilent (.inr hshort)
    · have hheader := hm.rxHeader_eq hrx
      by_cases hack : hasAck (rxHeader s) = true
      · refine .intro (exec_ackRx_of_ack hst hrx hack)
          (exec_ackRx_of_ack (s := withMemory s m) hst hrx (by rwa [hheader])) ?_
        rw [hheader, hm.withDecoded_eq hrx]
        rfl
      · refine .intro (exec_ackRx_of_not_ack hst hrx hack)
          (exec_ackRx_of_not_ack (s := withMemory s m) hst hrx (by rwa [hheader])) ?_
        rw [hm.withDecoded_eq hrx]
        rfl
  · exact .intro (exec_ackRx_of_badState hst) (exec_ackRx_of_badState (s := withMemory s m) hst) rfl

theorem connectTx_ignoresMemory (s : State) (m : Memory) : IgnoresMemory .connectTx s m := by
  by_cases hst : s.hsState = .disconnected
  · exact .intro (exec_connectTx_of_disconnected hst) (exec_connectTx_of_disconnected (s := withMemory s m) hst) rfl
  · exact .intro (exec_connectTx_of_badState hst) (exec_connectTx_of_badState (s := withMemory s m) hst) rfl

theorem disconnectTx_ignoresMemory (s : State) (m : Memory) : IgnoresMemory .disconnectTx s m := by
  by_cases hst : s.hsState = .connected
  · exact .intro (exec_disconnectTx_of_connected hst) (exec_disconnectTx_of_connected (s := withMemory s m) hst) rfl
  · exact .intro (exec_disconnectTx_of_badState hst) (exec_disconnectTx_of_badState (s := withMemory s m) hst) rfl

theorem sweep_ignoresMemory (s : State) (m : Memory) : IgnoresMemory .sweep s m :=
  .intro (exec_sweep s) (exec_sweep (withMemory s m)) rfl

end

/-- Settles O50: the commands that read RX_BUF take no more than the header of it, and the others take nothing. -/
theorem receivedPayloadIsIgnored : Obligations.ReceivedPayloadIsIgnored := by
  intro i s t m hpack hrevive hdata hm
  cases i with
  | pack => exact absurd rfl hpack
  | reviveTx => exact absurd rfl hrevive
  | dataTx mf fid fo => exact absurd rfl (hdata mf fid fo)
  | unpack => exact unpack_ignoresMemory hm t
  | connectTx => exact connectTx_ignoresMemory s m t
  | connectRx => exact connectRx_ignoresMemory hm t
  | disconnectTx => exact disconnectTx_ignoresMemory s m t
  | disconnectRx => exact disconnectRx_ignoresMemory hm t
  | reviveRx => exact reviveRx_ignoresMemory hm t
  | ackRx => exact ackRx_ignoresMemory hm t
  | sweep => exact sweep_ignoresMemory s m t

end Sys2Proof.Machine
end

section
/-! Sweeps one after the other (42_scheduler.md R170 to R173, R176): a second one at the same `now`, and the life of an entry that
is never acknowledged. -/

namespace Sys2Proof.Machine

open Sys2Proof

/-! ### A second sweep at the same `now` -/

theorem sweepTable_of_none_expired {p : Params} {now : Word} {es : List Entry} (hes : ∀ e ∈ es, expired p now e = false) :
    sweepTable p now es = { table := es, sent := [], droppedLens := [] } := by
  induction es with
  | nil => rfl
  | cons e rest ih =>
    obtain ⟨he, hrest⟩ := List.forall_mem_cons.mp hes
    simp [sweepTable, he, ih hrest]

/-- A resent entry starts its timeout anew. -/
theorem expired_resent (p : Params) (now : Word) (e : Entry) : expired p now (resent now e) = false := by
  simp [expired, resent]

/-- What a sweep leaves in the table has not expired: it was not late, or it was resent. -/
theorem not_expired_of_mem_sweepTable {p : Params} {now : Word} {es : List Entry} {e : Entry}
    (he : e ∈ (sweepTable p now es).table) : expired p now e = false := by
  rw [sweepTable_table] at he
  obtain ⟨e', he', rfl⟩ := List.mem_map.mp he
  have hkept := (List.mem_filter.mp he').2
  split
  · exact expired_resent p now e'
  · next hnot =>
    cases hceil : atCeiling p e' <;> simp_all [sweepDrops, sweepResends]

/-- Settles O37: in the table that the first sweep left nothing has expired at that `now`. -/
theorem secondSweepAtOnceDoesNothing : Obligations.SecondSweepAtOnceDoesNothing := by
  intro s t h
  obtain rfl := Host.Outcome.next.inj h
  have hquiet : sweepTable Config.params s.now (sweepTable Config.params s.now s.inflight).table =
      { table := (sweepTable Config.params s.now s.inflight).table, sent := [], droppedLens := [] } :=
    sweepTable_of_none_expired fun _ => not_expired_of_mem_sweepTable
  rw [exec_sweep, sweep, sweep_now, sweep_inflight, hquiet]
  simp [finish, resultWord_ok]

/-! ### A table of one entry, swept at every tick -/

/-- A tick, then a sweep. -/
def tickAndSweep (p : Params) (u : State) : State := sweep p (tickPulse u)

section
variable {p : Params} {s u : State} {e e' : Entry} {k j : Nat}

theorem tickAndSweep_of_sweepTable {es : List Entry} {r : SweepResult} (htable : u.inflight = es)
    (hsweep : sweepTable p (u.now + 1) es = r) :
    (tickAndSweep p u).inflight = r.table ∧ (tickAndSweep p u).tx = u.tx ++ r.sent := by
  subst htable hsweep
  exact ⟨rfl, rfl⟩

theorem sweepTable_one_resent {now : Word} (hlate : expired p now e' = true) (hbelow : atCeiling p e' = false) :
    sweepTable p now [e'] = { table := [resent now e'], sent := [e'.bytes], droppedLens := [] } := by
  simp [sweepTable, hlate, hbelow]

theorem sweepTable_one_dropped {now : Word} (hlate : expired p now e' = true) (hceil : atCeiling p e' = true) :
    sweepTable p now [e'] = { table := [], sent := [], droppedLens := [e'.len] } := by
  simp [sweepTable, hlate, hceil]

/-- The entry `e` of `s` has been resent `k` times, the last transmission `j` ticks ago. -/
def Pending (s : State) (e : Entry) (k j : Nat) (u : State) : Prop :=
  u.tx = s.tx ++ List.replicate k e.bytes ∧
  ∃ e', u.inflight = [e'] ∧ e'.bytes = e.bytes ∧ e'.retries.toNat = k ∧ (u.now - e'.lastSend).toNat = j

/-- The entry `e` of `s` has been resent `k` times and is dropped. -/
def Dropped (s : State) (e : Entry) (k : Nat) (u : State) : Prop :=
  u.tx = s.tx ++ List.replicate k e.bytes ∧ u.inflight = []

theorem elapsed_succ {now last : Word} (hj : (now - last).toNat = j) (hlt : j + 1 < 2 ^ 32) :
    (now + 1 - last).toNat = j + 1 := by
  bv_omega

theorem expired_succ_iff (hj : (u.now - e'.lastSend).toNat = j) (hlt : j + 1 < 2 ^ 32) :
    expired p (u.now + 1) e' = decide (p.rtoTicks < j + 1) := by
  rw [expired, elapsed_succ hj hlt]

theorem Pending.wait (hu : Pending s e k j u) (hj : j < p.rtoTicks) (hrto : p.rtoTicks + 1 < 2 ^ 32) :
    Pending s e k (j + 1) (tickAndSweep p u) := by
  obtain ⟨htx, e', hone, hbytes, hretries, helapsed⟩ := hu
  have hlt : j + 1 < 2 ^ 32 := by omega
  have hwait : expired p (u.now + 1) e' = false := by
    rw [expired_succ_iff helapsed hlt, decide_eq_false_iff_not]
    omega
  obtain ⟨htable, hsent⟩ :=     tickAndSweep_of_sweepTable hone (sweepTable_of_none_expired (by simpa using hwait))
  exact ⟨hsent.trans ((List.append_nil _).trans htx), e', htable, hbytes, hretries, elapsed_succ helapsed hlt⟩

theorem expired_at_timeout (helapsed : (u.now - e'.lastSend).toNat = p.rtoTicks) (hrto : p.rtoTicks + 1 < 2 ^ 32) :
    expired p (u.now + 1) e' = true := by
  rw [expired_succ_iff helapsed hrto, decide_eq_true_eq]
  omega

theorem Pending.resend (hu : Pending s e k p.rtoTicks u) (hk : k < p.retryCeiling) (hp : p.Ok)
    (hrto : p.rtoTicks + 1 < 2 ^ 32) : Pending s e (k + 1) 0 (tickAndSweep p u) := by
  obtain ⟨htx, e', hone, hbytes, rfl, helapsed⟩ := hu
  have hmax := hp.ceiling_le
  have hbelow : atCeiling p e' = false := by simpa [atCeiling] using hk
  obtain ⟨htable, hsent⟩ := tickAndSweep_of_sweepTable hone (sweepTable_one_resent (expired_at_timeout helapsed hrto) hbelow)
  refine ⟨?_, resent (u.now + 1) e', htable, hbytes, ?_, ?_⟩
  · rw [hsent, htx, hbytes, List.append_assoc, ← List.replicate_succ']
  · exact BitVec.toNat_add_of_lt (by simp; omega)
  · show ((u.now + 1) - (u.now + 1)).toNat = 0
    rw [BitVec.sub_self]
    rfl

theorem Pending.drop (hu : Pending s e p.retryCeiling p.rtoTicks u) (hrto : p.rtoTicks + 1 < 2 ^ 32) :
    Dropped s e p.retryCeiling (tickAndSweep p u) := by
  obtain ⟨htx, e', hone, -, hretries, helapsed⟩ := hu
  have hceil : atCeiling p e' = true := by simp [atCeiling, hretries]
  obtain ⟨htable, hsent⟩ := tickAndSweep_of_sweepTable hone (sweepTable_one_dropped (expired_at_timeout helapsed hrto) hceil)
  exact ⟨hsent.trans ((List.append_nil _).trans htx), htable⟩

theorem Dropped.stays (hu : Dropped s e k u) : Dropped s e k (tickAndSweep p u) := by
  obtain ⟨htx, hnone⟩ := hu
  obtain ⟨htable, hsent⟩ := tickAndSweep_of_sweepTable (p := p) hnone rfl
  exact ⟨hsent.trans ((List.append_nil _).trans htx), htable⟩

/-- Where the entry stands after `n` ticks: `RTO_TICKS + 1` of them go by before each resend, and as many before the drop. -/
theorem lifetime_after (hp : p.Ok) (hrto : p.rtoTicks + 1 < 2 ^ 32) (hone : s.inflight = [e]) (hsent : e.lastSend = s.now)
    (hretries : e.retries = 0) (n : Nat) :
    (∃ k j, k ≤ p.retryCeiling ∧ j ≤ p.rtoTicks ∧ n = (p.rtoTicks + 1) * k + j ∧
      Pending s e k j ((tickAndSweep p)^[n] s)) ∨
    ((p.retryCeiling + 1) * (p.rtoTicks + 1) ≤ n ∧ Dropped s e p.retryCeiling ((tickAndSweep p)^[n] s)) := by
  induction n with
  | zero =>
    refine .inl ⟨0, 0, Nat.zero_le _, Nat.zero_le _, rfl, by simp, e, hone, rfl, by simp [hretries], ?_⟩
    rw [hsent]
    simp
  | succ n ih =>
    rw [Function.iterate_succ_apply']
    rcases ih with ⟨k, j, hk, hj, hn, hpending⟩ | ⟨hn, hdropped⟩
    · rcases Nat.lt_or_eq_of_le hj with hlt | rfl
      · exact .inl ⟨k, j + 1, hk, hlt, by omega, hpending.wait hlt hrto⟩
      · rcases Nat.lt_or_eq_of_le hk with hlt | rfl
        · exact .inl ⟨k + 1, 0, hlt, Nat.zero_le _, by rw [Nat.mul_succ]; omega, hpending.resend hlt hp hrto⟩
        · exact .inr ⟨by rw [Nat.mul_comm, Nat.mul_succ]; omega, hpending.drop hrto⟩
    · exact .inr ⟨by omega, hdropped.stays⟩

end

/-- Settles O39: the number of resends after `n` ticks is the quotient, until the ceiling is passed. -/
theorem unacknowledgedEntryLifetime : Obligations.UnacknowledgedEntryLifetime := by
  intro p s e n hp hrto hone hsent hretries
  have hiterated : (fun u => sweep p (tickPulse u)) = tickAndSweep p := rfl
  rw [hiterated]
  rcases lifetime_after hp hrto hone hsent hretries n with ⟨k, j, hk, hj, hn, hpending⟩ | ⟨hn, hdropped⟩
  · have hquotient : n / (p.rtoTicks + 1) = k := by
      rw [hn, Nat.mul_add_div (Nat.succ_pos _), Nat.div_eq_of_lt (Nat.lt_succ_of_le hj), Nat.add_zero]
    have hbound : n < (p.retryCeiling + 1) * (p.rtoTicks + 1) :=
      (Nat.div_lt_iff_lt_mul (Nat.succ_pos _)).mp (hquotient ▸ Nat.lt_succ_of_le hk)
    obtain ⟨htx, e', htable, hbytes, hcount, -⟩ := hpending
    rw [hquotient]
    exact ⟨fun _ => ⟨htx, e', htable, hbytes, hcount⟩, fun hge => absurd hbound (Nat.not_lt.mpr hge)⟩
  · exact ⟨fun hlt => absurd hlt (Nat.not_lt.mpr hn), fun _ => hdropped⟩

end Sys2Proof.Machine
end

section
/-! The port's steps (20_memory.md R51 to R53, R60, 70_reset_and_hazards.md R250): which accesses are refused, what the
single-word registers read as and store, and the reset state. -/

namespace Sys2Proof.Machine

open Sys2Proof

/-! ### Refused accesses (R52) -/

theorem accessRefusal_of_bad {off : BitVec 13} {size : AccessSize} (hbad : size ≠ .word ∨ off.toNat % 4 ≠ 0) :
    ∃ r, accessRefusal off size = some r := by
  rw [← Option.ne_none_iff_exists', ne_eq, accessRefusal_none_iff]
  tauto

theorem serve_isNext_of_ok {ev : HostInput} (hwrite : ∀ off size v, ev = .write off size v → accessRefusal off size = none)
    (hread : ∀ off size, ev = .read off size → accessRefusal off size = none) (s : State) : ∃ t, serve ev s = .next t := by
  cases ev with
  | write off size v =>
    rw [serve, hwrite off size v rfl]
    exact busWrite_isNext _ _ _
  | read off size =>
    rw [serve, hread off size rfl]
    exact ⟨_, rfl⟩
  | tick | reset => exact ⟨_, rfl⟩

/-- Settles O11: `accessRefusal` alone refuses, and every command and every store answers a next state. -/
theorem onlyBadAccessesAreRefused : Obligations.OnlyBadAccessesAreRefused := by
  intro s
  refine ⟨fun off size v rest hin hbad => ?_, fun off size rest hin hbad => ?_, fun hwrite hread => ?_⟩
  · obtain ⟨r, hr⟩ := accessRefusal_of_bad hbad
    exact ⟨r, by simp only [step, hin, serve, hr]⟩
  · obtain ⟨r, hr⟩ := accessRefusal_of_bad hbad
    exact ⟨r, by simp only [step, hin, serve, hr]⟩
  · cases hin : s.input with
    | nil => exact ⟨s, by rw [step, hin]⟩
    | cons ev rest =>
      rw [step, hin]
      refine serve_isNext_of_ok (fun off size v hev => ?_) (fun off size hev => ?_) _
      · exact (accessRefusal_none_iff _ _).mpr (hwrite off size v rest (hev ▸ hin))
      · exact (accessRefusal_none_iff _ _).mpr (hread off size rest (hev ▸ hin))

/-! ### The single-word registers (R51) -/

theorem statusWord_active (s : State) : (statusWord s).getLsbD 2 = sessionActive s := by
  cases hst : s.hsState <;> simp [statusWord, sessionActive, hsBits, hst]

theorem statusWord_saved (s : State) : (statusWord s).getLsbD 3 = s.hasSavedSession := by
  simp [statusWord]

theorem statusWord_pending (s : State) : (statusWord s).getLsbD 4 = decide (s.pendingKind = .revive) := by
  cases hkind : s.pendingKind <;> simp [statusWord, pendingBit, hkind]

theorem statusWord_attempts (s : State) : (statusWord s).extractLsb' 5 2 = s.discAttempts := by
  ext k hk
  interval_cases k <;> simp [statusWord]

theorem statusWord_top (s : State) : (statusWord s).extractLsb' 7 25 = 0 := by
  ext k hk
  interval_cases k <;> simp [statusWord]

theorem rxLenWord_toNat (s : State) : (rxLenWord s).toNat = (if s.rxNoDgram then 2 ^ 31 else 0) + s.rxLen.toNat := by
  have hlen : (s.rxLen.setWidth 32).toNat = s.rxLen.toNat := BitVec.toNat_setWidth_of_le (by decide)
  have hlt : s.rxLen.toNat < 2 ^ 31 := by omega
  rw [rxLenWord, BitVec.toNat_or, hlen]
  cases s.rxNoDgram
  · simp
  · exact (Nat.two_pow_add_eq_or_of_lt hlt 1).symm

/-- Settles O13: a read returns the word its offset names, and each listed word presents its field. -/
theorem singleWordRegistersRead : Obligations.SingleWordRegistersRead := by
  refine ⟨fun s off rest hin halign => step_wordRead hin halign, fun s => ?_⟩
  refine ⟨rfl, rfl, statusWord_hsBits s, statusWord_active s, statusWord_saved s, statusWord_pending s,
    statusWord_attempts s, statusWord_top s, rfl, rfl, BitVec.toNat_setWidth_of_le (by decide),
    BitVec.toNat_setWidth_of_le (by decide), fun hslots => ?_, rfl, rfl, BitVec.toNat_setWidth_of_le (by decide),
    rxLenWord_toNat s, BitVec.toNat_setWidth_of_le (by decide)⟩
  show ((BitVec.ofNat 17 s.inflight.length).setWidth 32).toNat = s.inflight.length
  rw [BitVec.toNat_setWidth_of_le (by decide), BitVec.toNat_ofNat, Nat.mod_eq_of_lt (by omega)]

/-- Settles O14: the two offsets name TX_LEN and RX_LEN, whose stores are these. -/
theorem lengthRegistersStoreTheirBits : Obligations.LengthRegistersStoreTheirBits := by
  refine fun s v rest => ⟨fun hin => ?_, fun hin => ?_⟩
  · rw [step_wordWrite hin rfl]
    exact busWrite_of_store (r := .txLen) rfl nofun v _
  · rw [step_wordWrite hin rfl]
    exact busWrite_of_store (r := .rxLen) rfl nofun v _

/-! ### Reset (R40, R250, R252) -/

/-- No byte is written since the reset, so each is a free draw of the new one. -/
theorem readByte_resetPulse (s : State) (a : Nat) : readByte (resetPulse s) a = Config.resetByte (s.drawEpoch + 1) a := rfl

/-- Settles O9: serving the reset input is `resetPulse`. -/
theorem resetStartsNewTracesAndDraws : Obligations.ResetStartsNewTracesAndDraws :=
  fun _ _ hin => ⟨_, step_reset hin, rfl, rfl, rfl, readByte_resetPulse _⟩

/-- Settles O10: `core.reset` is `State.reset`, field by field as R40 lists them. -/
theorem startIsTheResetState : Obligations.StartIsTheResetState := by
  unfold Obligations.StartIsTheResetState
  decide

end Sys2Proof.Machine
end

section
/-! The codec's two directions (40_codec.md R116): each field of a header stands where it is read, and the bytes a header is read
from are the ones it packs to. -/

namespace Sys2Proof.Machine

open Sys2Proof

/-! ### Reading what was packed -/

theorem byteAt_append_left {front rest : List Byte} {i : Nat} (hi : i < front.length) :
    byteAt (front ++ rest) i = byteAt front i :=
  List.getD_append _ _ _ _ hi

theorem byteAt_append_right (front rest : List Byte) (i : Nat) :
    byteAt (front ++ rest) (front.length + i) = byteAt rest i := by
  rw [byteAt, List.getD_append_right _ _ _ _ (Nat.le_add_right _ _), Nat.add_sub_cancel_left, byteAt]

/-- `rd16` at the place where a half word was put in little-endian order reads it back. -/
theorem rd16_append_le16 (front rest : List Byte) (w : Half) : rd16 (front ++ (le16 w ++ rest)) front.length = w := by
  have hlow : byteAt (front ++ (le16 w ++ rest)) front.length = w.extractLsb' 0 8 :=
    byteAt_append_right front (le16 w ++ rest) 0
  have hhigh : byteAt (front ++ (le16 w ++ rest)) (front.length + 1) = w.extractLsb' 8 8 :=
    byteAt_append_right front (le16 w ++ rest) 1
  rw [rd16, hlow, hhigh]
  ext k hk
  interval_cases k <;> simp

theorem sidOfBytes_append (sid : Vector Byte 16) (rest : List Byte) : sidOfBytes (sid.toList ++ rest) = sid := by
  ext i hi
  rw [sidOfBytes, Vector.getElem_ofFn, byteAt_append_left (by simpa using hi)]
  simp [byteAt, List.getD_eq_getElem?_getD, hi]

/-- A packed header is read back whatever payload follows it. -/
theorem headerOfBytes_packHeader (h : Header) (payload : List Byte) : headerOfBytes (packHeader h ++ payload) = h := by
  have hsid := sidOfBytes_append h.sid
    (le32 h.sf ++ le32 h.seq ++ le32 h.ack ++ le16 h.wnd ++ [h.fid] ++ [h.fo] ++ payload)
  have hsf := rd32_append_le32 h.sid.toList (le32 h.seq ++ le32 h.ack ++ le16 h.wnd ++ [h.fid] ++ [h.fo] ++ payload) h.sf
  have hack := rd32_append_le32 (h.sid.toList ++ le32 h.sf ++ le32 h.seq) (le16 h.wnd ++ [h.fid] ++ [h.fo] ++ payload) h.ack
  have hwnd := rd16_append_le16 (h.sid.toList ++ le32 h.sf ++ le32 h.seq ++ le32 h.ack) ([h.fid] ++ [h.fo] ++ payload) h.wnd
  have hfid := byteAt_append_right (h.sid.toList ++ le32 h.sf ++ le32 h.seq ++ le32 h.ack ++ le16 h.wnd)
    ([h.fid] ++ [h.fo] ++ payload) 0
  have hfo := byteAt_append_right (h.sid.toList ++ le32 h.sf ++ le32 h.seq ++ le32 h.ack ++ le16 h.wnd)
    ([h.fid] ++ [h.fo] ++ payload) 1
  have hseq := rd32_seq_of_packet h payload
  simp only [packHeader, List.append_assoc, List.length_append, Vector.length_toList, le32_length, le16_length] at *
  rw [headerOfBytes, hsid, hsf, hseq, hack, hwnd, hfid, hfo]
  rfl

/-! ### Packing what was read -/

theorem byteAt_of_lt {b : List Byte} {i : Nat} (hi : i < b.length) : byteAt b i = b[i] := List.getD_eq_getElem _ _ hi

/-- `n` bytes that are those of `b` from offset `o` on are that part of `b`. -/
theorem eq_slice {l b : List Byte} {o n : Nat} (hlen : l.length = n) (ho : o + n ≤ b.length)
    (h : ∀ i < n, byteAt l i = byteAt b (o + i)) : l = (b.drop o).take n := by
  refine List.ext_getElem (by rw [hlen, List.length_take, List.length_drop]; omega) fun i hi _ => ?_
  rw [← byteAt_of_lt hi, h i (hlen ▸ hi), byteAt_of_lt (by omega)]
  simp

/-- A little-endian word of a byte string is put back as the four bytes it was read from. -/
theorem le32_rd32 {b : List Byte} {o : Nat} (ho : o + 4 ≤ b.length) : le32 (rd32 b o) = (b.drop o).take 4 :=
  eq_slice rfl ho fun i hi => by rw [le32, byteAt_wordLanes _ hi, byteLane_rd32 _ _ hi]

theorem le16_rd16 {b : List Byte} {o : Nat} (ho : o + 2 ≤ b.length) : le16 (rd16 b o) = (b.drop o).take 2 := by
  have hlow : (rd16 b o).extractLsb' 0 8 = byteAt b o := by
    ext k hk
    interval_cases k <;> simp [rd16]
  have hhigh : (rd16 b o).extractLsb' 8 8 = byteAt b (o + 1) := by
    ext k hk
    interval_cases k <;> simp [rd16]
  refine eq_slice rfl ho fun i hi => ?_
  rw [le16, hlow, hhigh]
  match i, hi with
  | 0, _ | 1, _ => rfl

theorem singleton_byteAt {b : List Byte} {o : Nat} (ho : o + 1 ≤ b.length) : [byteAt b o] = (b.drop o).take 1 :=
  eq_slice rfl ho fun i hi => by
    obtain rfl : i = 0 := Nat.lt_one_iff.mp hi
    rfl

theorem sidOfBytes_toList {b : List Byte} (hb : 16 ≤ b.length) : (sidOfBytes b).toList = b.take 16 := by
  have hlen : (sidOfBytes b).toList.length = 16 := Vector.length_toList
  refine eq_slice (o := 0) hlen (by omega) fun i hi => ?_
  rw [byteAt_of_lt (by rwa [hlen]), Vector.getElem_toList, Nat.zero_add]
  exact Vector.getElem_ofFn _

/-- The header read from a byte string packs to its first 32 bytes. -/
theorem packHeader_headerOfBytes {b : List Byte} (hb : 32 ≤ b.length) : packHeader (headerOfBytes b) = b.take 32 := by
  rw [packHeader, headerOfBytes, sidOfBytes_toList (by omega), le32_rd32 (by omega), le32_rd32 (by omega), le32_rd32 (by omega),
    le16_rd16 (by omega), singleton_byteAt (by omega), singleton_byteAt (by omega), ← List.take_add, ← List.take_add,
    ← List.take_add, ← List.take_add, ← List.take_add, ← List.take_add]

/-- Settles O21: a packed header is read back, and a header that was read packs to the bytes it was read from. -/
theorem codecRoundTrips : Obligations.CodecRoundTrips := by
  refine ⟨fun h payload => ?_, fun b h payload hunpack => ?_⟩
  · rw [unpackBytes_long (by simp), headerOfBytes_packHeader, List.drop_left' (packHeader_length h)]
  · by_cases hb : 32 ≤ b.length
    · rw [unpackBytes_long hb] at hunpack
      obtain ⟨rfl, rfl⟩ := Prod.mk.inj (Option.some.inj hunpack)
      rw [packHeader_headerOfBytes hb, List.take_append_drop]
    · rw [unpackBytes_short (Nat.lt_of_not_le hb)] at hunpack
      cases hunpack

end Sys2Proof.Machine
end

section
/-! Stores into HDR_IN and the byte buffers (20_memory.md R54 to R56, 30_encoding.md R92): what each word of the window reads as
afterwards, and what a load presents. -/

namespace Sys2Proof.Machine

open Sys2Proof

/-! ### A word of a header bank after a store (R55, R56) -/

theorem byteAt_setSidWord (sid : Vector Byte 16) (j : Nat) (v : Word) {j' i : Nat} (hj' : j' < 4) (hi : i < 4) :
    byteAt (setSidWord sid j v).toList (4 * j' + i) = if j' = j then byteLane v i else byteAt sid.toList (4 * j' + i) := by
  have hlt : 4 * j' + i < 16 := by omega
  rw [byteAt_of_lt (by simpa using hlt), Vector.getElem_toList]
  simp [setSidWord, show (4 * j' + i) / 4 = j' by omega, show (4 * j' + i) % 4 = i by omega]

theorem sidWord_setSidWord (sid : Vector Byte 16) {j : Nat} (hj : j < 4) (v : Word) : sidWord (setSidWord sid j v) j = v := by
  have hlane (i : Nat) (hi : i < 4) : byteAt (setSidWord sid j v).toList (4 * j + i) = byteLane v i := by
    rw [byteAt_setSidWord sid j v hj hi, if_pos rfl]
  have hzero := hlane 0 (by decide)
  rw [Nat.add_zero] at hzero
  rw [sidWord, rd32, hzero, hlane 1 (by decide), hlane 2 (by decide), hlane 3 (by decide), laneWord_lanes]

theorem sidWord_setSidWord_of_ne (sid : Vector Byte 16) {j j' : Nat} (hj' : j' < 4) (hne : j' ≠ j) (v : Word) :
    sidWord (setSidWord sid j v) j' = sidWord sid j' :=
  rd32_congr fun i hi => by rw [byteAt_setSidWord sid j v hj' hi, if_neg hne]

theorem setBankWord_sid (h : Header) {k : Nat} (hk : k < 4) (v : Word) :
    setBankWord h k v = { h with sid := setSidWord h.sid k v } := by
  match k, hk with
  | 0, _ | 1, _ | 2, _ | 3, _ => rfl

theorem setBankWord_keeps_sid (h : Header) {k : Nat} (hk : 4 ≤ k) (v : Word) : (setBankWord h k v).sid = h.sid := by
  match k, hk with
  | 4, _ | 5, _ | 6, _ | 7, _ | 8, _ | 9, _ | _ + 10, _ => rfl

/-- Past the session id, a bank's words are the other fields. -/
theorem bankWord_of_sid_changed (h : Header) (sid : Vector Byte 16) {k : Nat} (hk : 4 ≤ k) :
    bankWord { h with sid := sid } k = bankWord h k := by
  match k, hk with
  | 4, _ | 5, _ | 6, _ | 7, _ | 8, _ | 9, _ | _ + 10, _ => rfl

/-- A store into one word of a bank changes no other word of it. -/
theorem bankWord_setBankWord_of_ne (h : Header) {k k' : Nat} (hk : k < 10) (hk' : k' < 10) (hne : k' ≠ k) (v : Word) :
    bankWord (setBankWord h k v) k' = bankWord h k' := by
  by_cases hsid : k < 4 <;> by_cases hsid' : k' < 4
  · rw [setBankWord_sid h hsid, bankWord_sid _ hsid', bankWord_sid _ hsid', sidWord_setSidWord_of_ne _ hsid' hne]
  · rw [setBankWord_sid h hsid, bankWord_of_sid_changed _ _ (Nat.le_of_not_lt hsid')]
  · rw [bankWord_sid _ hsid', bankWord_sid _ hsid', setBankWord_keeps_sid h (Nat.le_of_not_lt hsid)]
  · have hfrom : 4 ≤ k := Nat.le_of_not_lt hsid
    have hfrom' : 4 ≤ k' := Nat.le_of_not_lt hsid'
    interval_cases k <;> interval_cases k' <;> simp_all [setBankWord, bankWord]

/-- The bits a header bank uses of its word `k` (R55). -/
def bankWordMask (k : Nat) : Word := if k < 7 then 0xFFFFFFFF#32 else if k = 7 then 0x0000FFFF#32 else 0x000000FF#32

theorem setWidth_half_setWidth (v : Word) : (v.setWidth 16).setWidth 32 = v &&& 0x0000FFFF#32 := by
  ext k hk
  interval_cases k <;> simp

theorem setWidth_byte_setWidth (v : Word) : (v.setWidth 8).setWidth 32 = v &&& 0x000000FF#32 := by
  ext k hk
  interval_cases k <;> simp

/-- A stored word reads as the bits used of it. -/
theorem bankWord_setBankWord_same (h : Header) {k : Nat} (hk : k < 10) (v : Word) :
    bankWord (setBankWord h k v) k = v &&& bankWordMask k := by
  have hones : v &&& 0xFFFFFFFF#32 = v := BitVec.and_allOnes
  by_cases hsid : k < 4
  · rw [setBankWord_sid h hsid, bankWord_sid _ hsid, sidWord_setSidWord _ hsid, bankWordMask, if_pos (by omega), hones]
  · match k, hsid, hk with
    | 4, _, _ | 5, _, _ | 6, _, _ => exact hones.symm
    | 7, _, _ => exact setWidth_half_setWidth v
    | 8, _, _ | 9, _, _ => exact setWidth_byte_setWidth v

/-! ### HDR_IN in the window -/

/-- An aligned offset that names word `k` of a bank is that word's place. -/
theorem offset_of_mapped_bank {off : Nat} {b : BankName} {k : Nat} (halign : off % 4 = 0)
    (hmap : mappedWord off = some (.bank b k)) : off = bankBase b + 4 * k ∧ k < 10 := by
  unfold mappedWord at hmap
  split at hmap
  · next w hw =>
    obtain rfl : w = .bank b k := Option.some.inj hmap
    exact absurd (mem_fixedWords_of_lookup hw) (by simp [fixedWords])
  · next b' _ hbank =>
    obtain ⟨rfl, rfl⟩ : b' = b ∧ (off - bankBase b') / 4 = k := by simpa using hmap
    have hin := List.find?_some hbank
    have hwords : bankBase b' % 4 = 0 := by cases b' <;> rfl
    simp only [decide_eq_true_eq] at hin
    omega
  · cases hmap
  · cases hmap

/-- No word outside HDR_IN presents any of it. -/
theorem readMapped_of_hdrIn_changed (s : State) (h : Header) {r : MappedWord} (hr : ∀ k, r ≠ .bank .hdrIn k) :
    readMapped { s with hdrIn := h } r = readMapped s r := by
  cases r with
  | bank b k =>
    cases b with
    | hdrIn => exact absurd rfl (hr k)
    | hdrOut | template | saved => rfl
  | _ => rfl

/-- A store into word `k` of HDR_IN changes what no other aligned offset reads as. -/
theorem busRead_of_hdrIn_stored (s : State) (v : Word) {k a : Nat} (hk : k < 10) (halign : a % 4 = 0)
    (hne : a ≠ bankBase .hdrIn + 4 * k) : busRead a { s with hdrIn := setBankWord s.hdrIn k v } = busRead a s := by
  cases hmap : mappedWord a with
  | none => rw [busRead_of_unmapped hmap, busRead_of_unmapped hmap]
  | some r =>
    rw [busRead_of_mapped hmap, busRead_of_mapped hmap]
    by_cases hin : ∃ k', r = .bank .hdrIn k'
    · obtain ⟨k', rfl⟩ := hin
      obtain ⟨rfl, hk'⟩ := offset_of_mapped_bank halign hmap
      exact bankWord_setBankWord_of_ne s.hdrIn hk hk' (by omega) v
    · exact readMapped_of_hdrIn_changed s _ fun k' hr => hin ⟨k', hr⟩

/-- Settles O17: the store is `setBankWord`, and a read presents its word. -/
theorem hdrInStoresTheBitsUsed : Obligations.HdrInStoresTheBitsUsed := by
  intro s off v rest hin halign hlo hhi
  obtain ⟨k, hk, hoff⟩ := exists_bankWord_of_mem (b := .hdrIn) halign hlo hhi
  have hmask : bankWordMask k =
      if off.toNat < 0x5C then 0xFFFFFFFF#32 else if off.toNat = 0x5C then 0x0000FFFF#32 else 0x000000FF#32 := by
    have hfull : k < 7 ↔ off.toNat < 0x5C := by rw [hoff, bankBase]; omega
    have hhalf : k = 7 ↔ off.toNat = 0x5C := by rw [hoff, bankBase]; omega
    simp only [bankWordMask, hfull, hhalf]
  refine ⟨setBankWord s.hdrIn k v, ?_, ?_, fun a ha hne => busRead_of_hdrIn_stored s v hk ha (hoff ▸ hne)⟩
  · rw [step_wordWrite hin halign, hoff, busWrite_of_store (mappedWord_bank .hdrIn hk) nofun]
    rfl
  · rw [← hmask, hoff, busRead_bank .hdrIn hk]
    exact bankWord_setBankWord_same s.hdrIn hk v

end Sys2Proof.Machine
end

section
/-! The host's loads (30_encoding.md R92): the words written, one after the other, and what `rxload` and `txload` present. -/

namespace Sys2Proof.Machine

open Sys2Proof

/-! ### Words of a byte string into a buffer -/

/-- The memory after the first `n` words of a load at `base`. -/
def loadWords (base : Nat) (b : List Byte) : Nat → Memory → Memory
  | 0, m => m
  | n + 1, m => memInsertList (base + 4 * n) (wordLanes (packWord b n)) (loadWords base b n m)

/-- Inside the words loaded stand the bytes of the string, everything else is as before. -/
theorem readByte_loadWords (s : State) (base : Nat) (b : List Byte) (n a : Nat) :
    readByte { s with mem := loadWords base b n s.mem } a =
      if base ≤ a ∧ a < base + 4 * n then byteAt b (a - base) else readByte s a := by
  induction n with
  | zero => rw [if_neg (by omega)]; rfl
  | succ n ih =>
    have hword := readByte_insertList { s with mem := loadWords base b n s.mem } (base + 4 * n) a (wordLanes (packWord b n))
    rw [wordLanes_length, ih] at hword
    refine hword.trans ?_
    by_cases hlast : base + 4 * n ≤ a ∧ a < base + 4 * n + 4
    · have hlane : a - (base + 4 * n) < 4 := by omega
      rw [if_pos hlast, if_pos (by omega), byteAt_wordLanes _ hlane, packWord, byteLane_rd32 _ _ hlane]
      congr 1
      omega
    · rw [if_neg hlast]
      by_cases hbefore : base ≤ a ∧ a < base + 4 * n
      · rw [if_pos hbefore, if_pos (by omega)]
      · rw [if_neg hbefore, if_neg (by omega)]

theorem readBytes_loadWords (s : State) (base : Nat) (b : List Byte) {n : Nat} (hn : b.length ≤ 4 * n) :
    readBytes { s with mem := loadWords base b n s.mem } base b.length = b := by
  refine List.ext_getElem (readBytes_length _ _ _) fun i hi hi' => ?_
  rw [← byteAt_of_lt hi, ← byteAt_of_lt hi', byteAt_readBytes _ _ hi', readByte_loadWords, if_pos (by omega),
    Nat.add_sub_cancel_left]

/-! ### The accesses of a load -/

/-- A `wr` line to a word that only stores. -/
theorem hostAct_writeLine {t : Target} {r : MappedWord} (hoff : targetOffset t < 0x2000) (halign : targetOffset t % 4 = 0)
    (hmap : mappedWord (targetOffset t) = some r) (hr : r ≠ .cmd) (v : Word) (g : HostSys) :
    hostAct g (writeLine t v) = { g with block := writeMapped g.block v r } := by
  have htarget : (BitVec.ofNat 13 (targetOffset t)).toNat = targetOffset t := by
    rw [BitVec.toNat_ofNat]
    omega
  have hok : accessRefusal (BitVec.ofNat 13 (targetOffset t)) .word = none :=
    (accessRefusal_none_iff _ _).mpr ⟨rfl, by rwa [htarget]⟩
  simp only [hostAct, writeLine, serve, hok, htarget, busWrite_of_store hmap hr]

section
variable {r : RegName} {buf : BufferName}

theorem hostAct_bufferWord (hbuf : buf ≠ .pktOut) (hbase : regOffset r = bufferBase buf) {k : Nat} (hk : 4 * k < bufferLen buf)
    (v : Word) (g : HostSys) :
    hostAct g (writeLine (.named r k) v) =
      { g with block := { g.block with mem := memInsertList (bufferBase buf + 4 * k) (wordLanes v) g.block.mem } } := by
  have htarget : targetOffset (.named r k) = bufferBase buf + 4 * k := by rw [targetOffset, hbase]
  have hwindow : bufferBase buf + bufferLen buf ≤ 0x2000 ∧ bufferBase buf % 4 = 0 := by cases buf <;> decide
  have hmap : mappedWord (targetOffset (.named r k)) = some (.buffer buf k) := by rw [htarget, mappedWord_buffer hk]
  rw [hostAct_writeLine (by omega) (by omega) hmap nofun, writeMapped_buffer hbuf]

theorem foldl_loadBuffer (hbuf : buf ≠ .pktOut) (hbase : regOffset r = bufferBase buf) (b : List Byte) (n : Nat)
    (hn : 4 * n ≤ bufferLen buf) (g : HostSys) :
    ((List.range n).map fun k => writeLine (.named r k) (packWord b k)).foldl hostAct g =
      { g with block := { g.block with mem := loadWords (bufferBase buf) b n g.block.mem } } := by
  induction n with
  | zero => rfl
  | succ n ih =>
    rw [List.range_succ, List.map_append, List.foldl_append, ih (by omega)]
    exact hostAct_bufferWord hbuf hbase (by omega) _ _

end

/-! ### `rxload` and `txload` -/

theorem extractLsb'_ofNat_length (n : Nat) : (BitVec.ofNat 32 n).extractLsb' 0 11 = BitVec.ofNat 11 n := by
  apply BitVec.eq_of_toNat_eq
  rw [BitVec.extractLsb'_toNat, BitVec.toNat_ofNat, BitVec.toNat_ofNat, Nat.shiftRight_zero]
  omega

/-- The memory after a load of all of `b` into a buffer. -/
def loadedMem (buf : BufferName) (b : List Byte) (m : Memory) : Memory :=
  loadWords (bufferBase buf) b ((b.length + 3) / 4) m

theorem hostLine_rxload {b : List Byte} (hb : b.length ≤ 1472) (g : HostSys) :
    hostLine (.rxload b) g = { g with
      block := { g.block with
        mem := loadedMem .rxBuf b g.block.mem
        rxNoDgram := false
        rxLen := BitVec.ofNat 11 b.length } } := by
  have hfits : 4 * ((b.length + 3) / 4) ≤ bufferLen .rxBuf := by rw [bufferLen]; omega
  have hbit : (BitVec.ofNat 32 b.length).getLsbD 31 = false := by
    rw [BitVec.getLsbD_ofNat, Nat.testBit_lt_two_pow (by omega), Bool.and_false]
  rw [hostLine, expandLine, List.foldl_append, loadBuffer, foldl_loadBuffer (buf := .rxBuf) nofun rfl b _ hfits, List.foldl_cons,
    hostAct_writeLine (r := .rxLen) (by decide) (by decide) rfl nofun, writeMapped, hbit, extractLsb'_ofNat_length]
  rfl

theorem hostLine_txload {b : List Byte} (hb : b.length ≤ 1440) (g : HostSys) :
    hostLine (.txload b) g = { g with
      block := { g.block with
        mem := loadedMem .txPayload b g.block.mem
        txLen := BitVec.ofNat 11 b.length } } := by
  have hfits : 4 * ((b.length + 3) / 4) ≤ bufferLen .txPayload := by rw [bufferLen]; omega
  rw [hostLine, expandLine, List.foldl_append, loadBuffer, foldl_loadBuffer (buf := .txPayload) nofun rfl b _ hfits,
    List.foldl_cons, hostAct_writeLine (r := .txLen) (by decide) (by decide) rfl nofun, writeMapped, extractLsb'_ofNat_length]
  rfl

theorem readBytes_loadedMem (s : State) (buf : BufferName) (b : List Byte) :
    readBytes { s with mem := loadedMem buf b s.mem } (bufferBase buf) b.length = b :=
  readBytes_loadWords s _ b (by omega)

/-- A load reaches no byte outside the buffer. -/
theorem readByte_loadedMem_outside (s : State) {buf : BufferName} {b : List Byte} {a : Nat} (hb : b.length ≤ bufferLen buf)
    (ha : a < bufferBase buf ∨ bufferBase buf + bufferLen buf ≤ a) :
    readByte { s with mem := loadedMem buf b s.mem } a = readByte s a := by
  have hwords : bufferLen buf % 4 = 0 := by cases buf <;> rfl
  rw [loadedMem, readByte_loadWords, if_neg (by omega)]

/-- The low 11 bits of a length that a buffer holds are the length. -/
theorem toNat_ofNat_length {n : Nat} (hn : n ≤ 1472) : (BitVec.ofNat 11 n).toNat = n := by
  rw [BitVec.toNat_ofNat]
  omega

/-- Settles O18: each load is the words of the buffer and then its length register. -/
theorem loadsPresentTheirBytes : Obligations.LoadsPresentTheirBytes := by
  refine fun g b => ⟨fun hb => ⟨_, hostLine_rxload hb g, ?_, fun a ha => ?_⟩,
    fun hb => ⟨_, hostLine_txload hb g, ?_, fun a ha => ?_⟩⟩
  · rw [hostLine_rxload hb, rxBytes]
    simp only [toNat_ofNat_length hb]
    exact readBytes_loadedMem g.block .rxBuf b
  · rw [hostLine_rxload hb]
    exact readByte_loadedMem_outside g.block (buf := .rxBuf) hb (.inl ha)
  · rw [hostLine_txload hb, txPayloadBytes, txLength]
    simp only [toNat_ofNat_length (hb.trans (by decide))]
    exact readBytes_loadedMem g.block .txPayload b
  · rw [hostLine_txload hb]
    exact readByte_loadedMem_outside g.block (buf := .txPayload) hb ha

end Sys2Proof.Machine
end

section
/-! The fragment plan (43_host_sequences.md R196, R197) and the host's operations one after the other (R205). -/

namespace Sys2Proof.Machine

open Sys2Proof

/-! ### The fragment plan -/

/-- The number of fragments of a message (R196). -/
def fragmentCount (msg : List Byte) : Nat := (msg.length + 1439) / 1440

/-- Fragment `i` of a message (R196, R197). -/
def fragmentAt (msg : List Byte) (i : Nat) : Fragment :=
  { payload := (msg.drop (i * 1440)).take 1440
    fo := BitVec.ofNat 8 i
    mf := BitVec.ofBool (decide (i + 1 < fragmentCount msg)) }

theorem splitMessage_eq (msg : List Byte) : splitMessage msg = (List.range (fragmentCount msg)).map (fragmentAt msg) := rfl

/-- A message that fits one fragment is cut into that one, so the whole path and the split path agree. -/
theorem fragmentPlan_eq_split (avail : Nat) {msg : List Byte} (hmsg : 0 < msg.length) :
    fragmentPlan avail msg = splitMessage msg := by
  unfold fragmentPlan
  split
  · next hfits =>
    have hlen : msg.length ≤ 1440 := hfits.1
    have hone : fragmentCount msg = 1 := by rw [fragmentCount]; omega
    rw [splitMessage_eq, hone]
    simp [fragmentAt, hone, List.take_of_length_le hlen]
  · rfl

/-- The first `n` pieces joined are the message as far as they reach. -/
theorem flatten_pieces (msg : List Byte) (n : Nat) :
    ((List.range n).map fun i => (fragmentAt msg i).payload).flatten = msg.take (n * 1440) := by
  induction n with
  | zero => simp
  | succ n ih =>
    rw [List.range_succ, List.map_append, List.flatten_append, ih, Nat.succ_mul, List.take_add]
    simp [fragmentAt]

theorem fragmentAt_payload_length (msg : List Byte) (i : Nat) :
    (fragmentAt msg i).payload.length = min 1440 (msg.length - i * 1440) := by
  simp [fragmentAt]

theorem fragmentAt_mf_iff (msg : List Byte) (i : Nat) : (fragmentAt msg i).mf = 1 ↔ i + 1 < fragmentCount msg := by
  by_cases hlast : i + 1 < fragmentCount msg <;> simp [fragmentAt, hlast]

theorem fragmentAt_fo {msg : List Byte} {i : Nat} (hi : i < 256) : (fragmentAt msg i).fo.toNat = i := by
  rw [fragmentAt, BitVec.toNat_ofNat]
  omega

/-- Settles O51: the plan is the split of the message, also where it goes whole. -/
theorem fragmentPlanCutsTheMessage : Obligations.FragmentPlanCutsTheMessage := by
  refine ⟨fun avail => by simp [fragmentPlan], fun avail msg hmsg hmax => ?_⟩
  have hcount : fragmentCount msg = (msg.length + 1439) / 1440 := rfl
  rw [fragmentPlan_eq_split avail hmsg]
  simp only [splitMessage_eq, List.length_map, List.length_range, List.getElem_map, List.getElem_range, List.map_map]
  refine ⟨hcount, ?_, fun i hi => ⟨fragmentAt_fo (by omega), fragmentAt_mf_iff msg i, ?_, ?_, fun hnext => ?_⟩⟩
  · exact (flatten_pieces msg _).trans (List.take_of_length_le (by omega))
  all_goals
    rw [fragmentAt_payload_length]
    omega

/-! ### Operations one after the other -/

section
variable {hp : HostParams} {op : HostOp} {rest : List HostOp} {g : HostSys}

theorem hostRun_cons_of_returned (hret : (hostOp hp op g).1.returned = true) :
    hostRun hp (op :: rest) g =
      ((hostOp hp op g).1 :: (hostRun hp rest (hostOp hp op g).2).1, (hostRun hp rest (hostOp hp op g).2).2) := by
  rw [hostRun, if_pos hret]

theorem hostRun_cons_of_not_returned (hret : (hostOp hp op g).1.returned = false) :
    hostRun hp (op :: rest) g = ([(hostOp hp op g).1], (hostOp hp op g).2) := by
  rw [hostRun, if_neg (by rw [hret]; decide)]

end

/-- Operations asked for after one that has not returned do not start. -/
theorem hostRun_append_of_stuck (hp : HostParams) (ops more : List HostOp) (g : HostSys)
    (hstuck : ∃ r ∈ (hostRun hp ops g).1, r.returned = false) : hostRun hp (ops ++ more) g = hostRun hp ops g := by
  induction ops generalizing g with
  | nil => simp [hostRun] at hstuck
  | cons op rest ih =>
    rw [List.cons_append]
    cases hret : (hostOp hp op g).1.returned with
    | false => rw [hostRun_cons_of_not_returned hret, hostRun_cons_of_not_returned hret]
    | true =>
      rw [hostRun_cons_of_returned hret] at hstuck ⊢
      obtain ⟨r, hr, hstuck⟩ := hstuck
      rcases List.mem_cons.mp hr with rfl | hr
      · exact absurd (hret.symm.trans hstuck) (by decide)
      · rw [hostRun_cons_of_returned hret, ih _ ⟨r, hr, hstuck⟩]

/-- Where all operations have returned, each has its result, and the next ones run on from there. -/
theorem hostRun_append_of_returned (hp : HostParams) (ops more : List HostOp) (g : HostSys)
    (hall : ∀ r ∈ (hostRun hp ops g).1, r.returned = true) :
    (hostRun hp ops g).1.length = ops.length ∧
    hostRun hp (ops ++ more) g =
      ((hostRun hp ops g).1 ++ (hostRun hp more (hostRun hp ops g).2).1, (hostRun hp more (hostRun hp ops g).2).2) := by
  induction ops generalizing g with
  | nil => exact ⟨rfl, rfl⟩
  | cons op rest ih =>
    rw [List.cons_append]
    cases hret : (hostOp hp op g).1.returned with
    | false =>
      rw [hostRun_cons_of_not_returned hret] at hall
      exact absurd (hret.symm.trans (hall _ List.mem_cons_self)) (by decide)
    | true =>
      rw [hostRun_cons_of_returned hret] at hall ⊢
      obtain ⟨hlen, hrun⟩ := ih _ fun r hr => hall r (List.mem_cons_of_mem _ hr)
      exact ⟨congrArg Nat.succ hlen, by rw [hostRun_cons_of_returned hret, hrun]; rfl⟩

/-- Settles O54: the two cases of a run. -/
theorem operationsAreNotCutOff : Obligations.OperationsAreNotCutOff := by
  intro hp ops more g g' rs hrun
  have hstuck := hostRun_append_of_stuck hp ops more g
  have hreturned := hostRun_append_of_returned hp ops more g
  rw [hrun] at hstuck hreturned
  exact ⟨hstuck, hreturned⟩

end Sys2Proof.Machine
end

section
/-! The host's exchanges (43_host_sequences.md R191, R192): what `cmd(X)` reports of a command, how `connect()` can end, and the
recovery of a Disconnect. -/

namespace Sys2Proof.Machine

open Sys2Proof

/-! ### `cmd(X)` (R190) -/

/-- The block on which the host's next command runs: the pause is over and CMD holds the word. -/
def commandBlock (i : Instr) (g : HostSys) : State := { (hostPause g).block with cmd := encode i }

/-- The host reads the code of the command's RESULT, and besides the trace of reads the block is as the command left it. -/
theorem hostCmd_of_exec {i : Instr} {g : HostSys} {t : State} (ht : exec i (commandBlock i g) = .next t) :
    (hostCmd i g).code = t.result.extractLsb' 0 8 ∧ (hostCmd i g).sys.block = { t with busOut := t.busOut ++ [t.result] } :=
  hostCmd_spec (decodeOfEncodeIsTheCommand i) ht

theorem exists_hostCmd_effect (i : Instr) (g : HostSys) :
    ∃ t, CommandEffect (commandBlock i g) i t ∧ (hostCmd i g).code = t.result.extractLsb' 0 8 ∧
      (hostCmd i g).sys.block.hsState = t.hsState := by
  obtain ⟨t, ht⟩ := exec_isNext i (commandBlock i g)
  obtain ⟨hcode, hblock⟩ := hostCmd_of_exec ht
  exact ⟨t, exec_effect ht, hcode, by rw [hblock]⟩

/-- RESULT holds after `cmd(X)` the code that the host has read. -/
theorem hostCmd_result_code (i : Instr) (g : HostSys) :
    (hostCmd i g).sys.block.result.extractLsb' 0 8 = (hostCmd i g).code := by
  obtain ⟨t, ht⟩ := exec_isNext i (commandBlock i g)
  obtain ⟨hcode, hblock⟩ := hostCmd_of_exec ht
  rw [hblock, hcode]

theorem codeByte_injective : Function.Injective codeByte := by
  intro a b
  cases a <;> cases b <;> simp [codeByte]

/-- The host reads a code that is listed for its command. -/
theorem exists_listed_hostCmd_code (i : Instr) (g : HostSys) :
    ∃ code ∈ listedCodes i, (hostCmd i g).code = codeByte code := by
  obtain ⟨t, heff, hcode, -⟩ := exists_hostCmd_effect i g
  obtain ⟨code, hlisted, a, b, hresult, -, -⟩ := heff.exists_result
  exact ⟨code, hlisted, by rw [hcode, hresult]; exact (resultWord_lanes code a b).1⟩

/-! ### `connect()` (R132, R191) -/

/-- After CONNECT_RX, the code says where the session is: CONNECTED on OK, DISCONNECTED on each failure of the handshake. -/
theorem hostCmd_connectRx (g : HostSys) :
    ((hostCmd .connectRx g).code = codeByte .ok → (hostCmd .connectRx g).sys.block.hsState = .connected) ∧
    ((hostCmd .connectRx g).code ∈ (handshakeFailCodes .connectRx).map codeByte →
      (hostCmd .connectRx g).sys.block.hsState = .disconnected) := by
  obtain ⟨t, heff, hcode, hst⟩ := exists_hostCmd_effect .connectRx g
  rw [hcode, hst]
  cases heff with
  | handshakeDone =>
    rw [extractLsb'_finish_result]
    exact ⟨fun _ => rfl, fun hmem => absurd hmem (by decide)⟩
  | handshakeFailed _ code hfail =>
    have hne : code ≠ .ok := ne_of_mem_of_not_mem hfail (ok_notMem_handshakeFailCodes _)
    rw [extractLsb'_finish_result]
    exact ⟨fun heq => absurd (codeByte_injective heq) hne, fun _ => rfl⟩
  | rejected _ code hreject =>
    have hother : ∀ c ∈ rejectCodes .connectRx, codeByte c ≠ codeByte .ok ∧
        codeByte c ∉ (handshakeFailCodes .connectRx).map codeByte := by decide
    obtain ⟨hok, hfail⟩ := hother code hreject
    rw [extractLsb'_finish_result]
    exact ⟨fun heq => absurd heq hok, fun hmem => absurd hmem hfail⟩

/-- An exchange ends with the code of its reply command, or without a code. -/
theorem awaitReply_cases {hp : HostParams} {reply : Instr} {g g' : HostSys} {res : HostResult}
    (h : awaitReply hp reply g = (res, g')) :
    (∃ g1, res = codeResult (hostCmd reply g1).code ∧ g' = (hostCmd reply g1).sys) ∨
      res ∈ [.waiting, .unspecified, .failure .transport] := by
  unfold awaitReply at h
  split at h
  · obtain ⟨rfl, -⟩ := Prod.mk.inj h
    exact .inr (by decide)
  · split at h
    · obtain ⟨rfl, -⟩ := Prod.mk.inj h
      exact .inr (by decide)
    · next g1 _ =>
      dsimp only at h
      split at h
      · obtain ⟨rfl, -⟩ := Prod.mk.inj h
        exact .inr (by decide)
      · obtain ⟨rfl, rfl⟩ := Prod.mk.inj h
        exact .inl ⟨g1, rfl, rfl⟩

/-- `connect()` ends with the code of its CONNECT_RX, without a code, or with BAD_STATE. -/
theorem hostConnect_cases {hp : HostParams} {g g' : HostSys} {res : HostResult} (h : hostConnect hp g = (res, g')) :
    (∃ g1, res = codeResult (hostCmd .connectRx g1).code ∧ g' = (hostCmd .connectRx g1).sys) ∨
      res ∈ [.failure (.code (codeByte .badState)), .waiting, .unspecified, .failure .transport] := by
  unfold hostConnect at h
  dsimp only at h
  split at h
  · next hne =>
    obtain ⟨code, hlisted, hcode⟩ := exists_listed_hostCmd_code .connectTx g
    obtain rfl | rfl : code = .ok ∨ code = .badState := by simpa [listedCodes] using hlisted
    · exact absurd hcode hne
    · obtain ⟨rfl, -⟩ := Prod.mk.inj h
      exact .inr (by simp [hcode])
  · split at h
    · obtain ⟨rfl, -⟩ := Prod.mk.inj h
      exact .inr (by decide)
    · exact (awaitReply_cases h).imp_right (List.mem_cons_of_mem _)

/-- A code is a success exactly when it is OK's. -/
theorem codeResult_eq_success {c : Byte} (h : codeResult c = .success) : c = codeByte .ok := by
  unfold codeResult at h
  split at h
  · assumption
  · cases h

theorem codeResult_eq_code {c c' : Byte} (h : codeResult c = .failure (.code c')) : c = c' := by
  unfold codeResult at h
  split at h
  · cases h
  · exact HostFailure.code.inj (HostResult.failure.inj h)

/-- Settles O55: only CONNECT_RX can end a Connect with success or with a code of the handshake. -/
theorem hostConnectSuccessMeansConnected : Obligations.HostConnectSuccessMeansConnected := by
  refine fun hp g g' => ⟨fun h => ?_, fun c hc h => ?_⟩
  · rcases hostConnect_cases h with ⟨g1, hres, rfl⟩ | hother
    · exact (hostCmd_connectRx g1).1 (codeResult_eq_success hres.symm)
    · exact absurd hother (by decide)
  · have hlisted : ∀ c ∈ ([0x01, 0x02, 0x03] : List Byte),
        c ∈ (handshakeFailCodes .connectRx).map codeByte ∧ c ≠ codeByte .badState := by decide
    obtain ⟨hfail, hne⟩ := hlisted c hc
    rcases hostConnect_cases h with ⟨g1, hres, rfl⟩ | hother
    · exact (hostCmd_connectRx g1).2 (codeResult_eq_code hres.symm ▸ hfail)
    · exact absurd hother (by simp [hne])

/-! ### The recovery of a Disconnect (R134, R192) -/

/-- `rxnone ; cmd(DISCONNECT_RX)`. -/
def silentAttempt (g : HostSys) : CmdReport := hostCmd .disconnectRx (hostLine .rxnone g)

theorem recoverLoop_succ (n : Nat) (g : HostSys) :
    recoverLoop (n + 1) g =
      if (silentAttempt g).code = codeByte .disconnectPending then recoverLoop n (silentAttempt g).sys
      else (silentAttempt g).sys := rfl

theorem hostLine_rxnone (g : HostSys) :
    hostLine .rxnone g = { g with block := { g.block with rxNoDgram := true, rxLen := 0 } } :=
  hostAct_writeLine (t := .named .RX_LEN 0) (r := .rxLen) (by decide) (by decide) rfl nofun 0x80000000#32 g

/-- The attempt runs on the session as it is, with no datagram presented. -/
theorem silentBlock_spec (g : HostSys) :
    SameSession g.block (commandBlock .disconnectRx (hostLine .rxnone g)) ∧
    (commandBlock .disconnectRx (hostLine .rxnone g)).rxNoDgram = true := by
  rw [commandBlock, hostPause_eq, hostLine_rxnone]
  exact ⟨⟨rfl, rfl, rfl, rfl, rfl, rfl⟩, rfl⟩

/-- The block has left DISCONNECTING with DISCONNECT_NOT_ACKNOWLEDGED, its table as it was and nothing emitted. -/
structure GivenUp (s t : State) : Prop where
  hsState : t.hsState = .connected
  result : t.result = 0x00000304#32
  inflight : t.inflight = s.inflight
  tx : t.tx = s.tx

/-- The Disconnect is pending with one attempt more. -/
structure OneMoreAttempt (s t : State) : Prop where
  hsState : t.hsState = .disconnecting
  discAttempts : t.discAttempts = s.discAttempts + 1
  inflight : t.inflight = s.inflight
  tx : t.tx = s.tx

theorem silentAttempt_of_exec {g : HostSys} {t : State}
    (ht : exec .disconnectRx (commandBlock .disconnectRx (hostLine .rxnone g)) = .next t) :
    (silentAttempt g).code = t.result.extractLsb' 0 8 ∧
    (silentAttempt g).sys.block = { t with busOut := t.busOut ++ [t.result] } :=
  hostCmd_of_exec ht

/-- Outside DISCONNECTING the attempt reports BAD_STATE. -/
theorem silentAttempt_of_badState {g : HostSys} (hst : g.block.hsState ≠ .disconnecting) :
    (silentAttempt g).code = codeByte .badState := by
  obtain ⟨hsame, -⟩ := silentBlock_spec g
  have hexec := exec_disconnectRx_of_badState (hsame.hsState.symm ▸ hst)
  obtain ⟨hcode, -⟩ := silentAttempt_of_exec hexec
  rw [hcode, extractLsb'_finish_result]

theorem silentAttempt_of_disconnecting {g : HostSys} (hst : g.block.hsState = .disconnecting) :
    (g.block.discAttempts = 2 ∧ (silentAttempt g).code = codeByte .disconnectNotAcknowledged ∧
      GivenUp g.block (silentAttempt g).sys.block) ∨
    (g.block.discAttempts ≠ 2 ∧ (silentAttempt g).code = codeByte .disconnectPending ∧
      OneMoreAttempt g.block (silentAttempt g).sys.block) := by
  obtain ⟨hsame, hno⟩ := silentBlock_spec g
  have hst' := hsame.hsState.trans hst
  have hexec := exec_disconnectRx_of_no_header hst' (.inl hno)
  have hlast : ∀ n : BitVec 2, n = 2 ↔ (n + 1).toNat = discAttemptLimit := by decide
  by_cases hcount : g.block.discAttempts = 2
  · rw [failDisconnectAttempt_last ((hlast _).mp (hsame.discAttempts.trans hcount))] at hexec
    obtain ⟨hcode, hblock⟩ := silentAttempt_of_exec hexec
    rw [hcode, hblock, extractLsb'_finish_result]
    exact .inl ⟨hcount, rfl, rfl, rfl, hsame.inflight, hsame.tx⟩
  · rw [failDisconnectAttempt_pending (mt (hlast _).mpr (by rwa [hsame.discAttempts]))] at hexec
    obtain ⟨hcode, hblock⟩ := silentAttempt_of_exec hexec
    rw [hcode, hblock, extractLsb'_finish_result]
    exact .inr ⟨hcount, rfl, hst', congrArg (· + 1) hsame.discAttempts, hsame.inflight, hsame.tx⟩

/-- From DISCONNECTING the repetition gives up within as many attempts as the count leaves. -/
theorem recoverLoop_gives_up {n : Nat} {g : HostSys} (hst : g.block.hsState = .disconnecting)
    (hn : (2 - g.block.discAttempts).toNat < n) : GivenUp g.block (recoverLoop n g).block := by
  induction n generalizing g with
  | zero => omega
  | succ n ih =>
    rw [recoverLoop_succ]
    rcases silentAttempt_of_disconnecting hst with ⟨-, hcode, hdone⟩ | ⟨hcount, hcode, hmore⟩
    · rw [if_neg (by rw [hcode]; decide)]
      exact hdone
    · have hcloser : ∀ k : BitVec 2, k ≠ 2 → (2 - (k + 1)).toNat < (2 - k).toNat := by decide
      have hless := hcloser _ hcount
      rw [if_pos hcode]
      obtain ⟨hconnected, hresult, htable, hsent⟩ := ih hmore.hsState (by rw [hmore.discAttempts]; omega)
      exact ⟨hconnected, hresult, htable.trans hmore.inflight, hsent.trans hmore.tx⟩

theorem recoverDisconnect_gives_up {g : HostSys} (hst : g.block.hsState = .disconnecting) :
    GivenUp g.block (recoverDisconnect g).block :=
  recoverLoop_gives_up hst (2 - g.block.discAttempts).isLt

/-- The recovery ends with a code other than DISCONNECT_PENDING. -/
theorem recoverDisconnect_not_pending (g : HostSys) :
    (recoverDisconnect g).block.result.extractLsb' 0 8 ≠ codeByte .disconnectPending := by
  by_cases hst : g.block.hsState = .disconnecting
  · rw [(recoverDisconnect_gives_up hst).result]
    decide
  · have hcode := silentAttempt_of_badState hst
    have hother : (silentAttempt g).code ≠ codeByte .disconnectPending := by rw [hcode]; decide
    rw [recoverDisconnect, recoverLoop_succ, if_neg hother]
    exact (hostCmd_result_code _ _).trans_ne hother

/-- Settles O53: a transport error is noted, the note runs the recovery first, and the recovery gives the Disconnect up. -/
theorem recoveryEndsAPendingDisconnect : Obligations.RecoveryEndsAPendingDisconnect := by
  refine ⟨fun hp g g' h => ?_, fun hp g msg hnoted => ?_, fun g => ⟨recoverDisconnect_not_pending g, fun hst => ?_⟩⟩
  · obtain ⟨hres, rfl⟩ := Prod.mk.inj h
    simp [hres]
  · have hfinish : finishPending g = { recoverDisconnect g with recoverFirst := false } := if_pos hnoted
    simp only [hostOp, hfinish, and_self]
  · obtain ⟨hconnected, hresult, htable, hsent⟩ := recoverDisconnect_gives_up hst
    exact ⟨hconnected, hresult, htable, hsent⟩

end Sys2Proof.Machine
end
